-- ==== Sys2Proof/Word.lean ====
section
/-! DEFINITION. The word types of the block and the names of its external memories. -/

namespace Sys2Proof

/-- A port word: every transaction is one of these (30_encoding.md R202). -/
abbrev PortWord := BitVec 32

/-- One byte of a register or of an external memory. -/
abbrev Byte := BitVec 8

/-- A 16-bit register or memory value. -/
abbrev Half := BitVec 16

/-- A colour: red in bits 4..0, green in 9..5, blue in 14..10 (00_scope.md R13). -/
abbrev Color := BitVec 15

/-- The external memory spaces (20_memory.md R151). -/
inductive Space where
  /-- Palette memory. -/
  | pal
  /-- Video memory. -/
  | vram
  /-- The sprite attribute table. -/
  | oam
deriving DecidableEq, Repr

end Sys2Proof
end

