-- ==== Sys2Proof/Config.lean ====
section
/-! DEFINITION. The configuration record of 00_scope.md R6, its SINGLE column, and the free values (draws). -/

namespace Sys2Proof

/-- The two variants of the design (00_scope.md R2). -/
inductive Variant where
  /-- The single-display variant, the admitted one (R3). -/
  | single
  /-- The dual-display variant, refused where no source defines it (60_exceptions.md R757). -/
  | dual
deriving DecidableEq, Repr

/-- When the sprites of line 0 are rendered (`OBJ_LINE0_PRERENDER`, 41_scanline_timing_fsm.md R409). -/
inductive ObjLine0Prerender where
  /-- At the entry into line `TOTAL_LINES - 1`: the spec's reading. -/
  | lastLineStart
  /-- At the wrap itself, just before line 0 is rendered: the alternative reading. -/
  | wrap
deriving DecidableEq, Repr

/-- The per-line sprite budget (`OBJ_CYCLE_LIMIT`, 45_sprite_renderer.md R596): the spec has one value. -/
inductive ObjCycleLimit where
  /-- No limit: every admitted sprite is drawn. -/
  | none
deriving DecidableEq, Repr

/-- The configuration record of 00_scope.md R6: the parameters whose SINGLE and DUAL values can differ.
`NUM_BG` is 4 in both columns (the type `Bg`), `NUM_OBJ` is `Config.numObj`. A DUAL machine is a record
with `variant = .dual` and ANY values in the other fields: the spec leaves them OPEN. -/
structure Config where
  /-- `VARIANT`. -/
  variant : Variant
  /-- `SCREEN_W`, visible columns. -/
  screenW : Nat
  /-- `SCREEN_H`, visible lines. -/
  screenH : Nat
  /-- `TOTAL_LINES`, lines per frame. -/
  totalLines : Nat
  /-- `H_DRAW_TICKS`, ticks of the drawing part of a line. -/
  hDrawTicks : Nat
  /-- `H_BLANK_TICKS`, ticks of the blanking part of a line. -/
  hBlankTicks : Nat
  /-- `PAL_BYTES`. -/
  palBytes : Nat
  /-- `VRAM_BYTES`. -/
  vramBytes : Nat
  /-- `OAM_BYTES`. -/
  oamBytes : Nat
  /-- `OBJ_VRAM_BASE`, where sprite tile data starts in VRAM. -/
  objVramBase : Nat
  /-- `BG_TILE_VRAM_LIMIT`, the first VRAM offset a background fetch cannot reach. -/
  bgTileVramLimit : Nat
  /-- `BG_VRAM_OOB_BYTE`, what a background fetch at or above that limit returns. -/
  bgVramOobByte : Byte
  /-- `BLANK_COLOR`, the colour of a forced-blank pixel. -/
  blankColor : Color
  /-- `OBJ_LINE0_PRERENDER`. -/
  objLine0Prerender : ObjLine0Prerender
  /-- `OBJ_CYCLE_LIMIT`. -/
  objCycleLimit : ObjCycleLimit
  /-- `VBLANK_FLAG_ON_LAST_LINE`. -/
  vblankFlagOnLastLine : Bool
  /-- `DUAL_IRQ_PER_DISPLAY` (41_scanline_timing_fsm.md R418): OPEN, read in DUAL only. -/
  dualIrqPerDisplay : Bool
deriving DecidableEq, Repr

/-- The SINGLE column of 00_scope.md R6, the admitted configuration (R3). -/
def Config.single : Config where
  variant := .single
  screenW := 240
  screenH := 160
  totalLines := 228
  hDrawTicks := 960
  hBlankTicks := 272
  palBytes := 0x400
  vramBytes := 0x18000
  oamBytes := 0x400
  objVramBase := 0x10000
  bgTileVramLimit := 0x10000
  bgVramOobByte := 0x00
  blankColor := 0x7FFF
  objLine0Prerender := .lastLineStart
  objCycleLimit := .none
  vblankFlagOnLastLine := false
  dualIrqPerDisplay := false

/-- `NUM_OBJ`: the attribute table has 128 entries in both columns (R6). -/
def Config.numObj : Nat := 128

/-- `NUM_DISPLAYS` (R6). -/
def Config.numDisplays (c : Config) : Nat :=
  match c.variant with
  | .single => 1
  | .dual => 2

/-- `HAS_3D_PASSTHROUGH` (R6, 48_framebuffer_mux.md R724): true exactly in DUAL, where every render is refused. -/
def Config.has3dPassthrough (c : Config) : Bool := c.variant == .dual

/-- `HAS_VRAM_DISPLAY` (R6, 48_framebuffer_mux.md R723): true exactly in DUAL, where every render is refused. -/
def Config.hasVramDisplay (c : Config) : Bool := c.variant == .dual

/-- `H_TOTAL`, ticks per line (R6). -/
def Config.hTotal (c : Config) : Nat := c.hDrawTicks + c.hBlankTicks

/-- The size in bytes of an external memory (20_memory.md R151). -/
def Config.spaceBytes (c : Config) : Space → Nat
  | .pal => c.palBytes
  | .vram => c.vramBytes
  | .oam => c.oamBytes

/-- FREE VALUE. The byte a draw of 8 bits gives, for the n-th draw of a run (40_register_port.md R302, R303, R307;
60_exceptions.md R755). It has no body: nothing constrains it. Log entry 5. -/
opaque Config.drawByte : Nat → Byte

/-- FREE VALUE. The pixel a draw of 15 bits gives, for the n-th draw of a run (60_exceptions.md R755). Log entry 5. -/
opaque Config.drawPixel : Nat → Color

/-- FREE VALUE. The byte an external memory of a display instance holds at reset (10_state.md R81, R85). Log entry 6. -/
opaque Config.resetByte : BitVec 1 → Space → Nat → Byte

/-- FREE VALUE. The pixel at reset of one of the two output buffers (false for `BUF[0]`, true for `BUF[1]`) of a
display instance, at a row and a column (10_state.md R71, R85). Log entry 7. -/
opaque Config.resetPixel : BitVec 1 → Bool → Nat → Nat → Color

end Sys2Proof
end

