-- ==== Sys2Proof/Syntax.lean ====
section
/-! DEFINITION. The transactions of the block: one constructor per row of the opcode table (30_encoding.md R203-R210, R212). -/

namespace Sys2Proof

/-- A transaction. `disp` is the display instance (DISP), `k` the byte index inside the register slot (R213),
`data` the byte written. Rows the spec refuses have constructors too: their meaning is the refusal of R210. -/
inductive Instr where
  /-- `RD8` of byte `k` of DISPCNT, offset 0x000 + k (R306). -/
  | rd8Dispcnt (disp : BitVec 1) (k : BitVec 1)
  /-- `WR8` of byte `k` of DISPCNT, offset 0x000 + k (R304). -/
  | wr8Dispcnt (disp : BitVec 1) (k : BitVec 1) (data : Byte)
  /-- `RD8` of byte `k` of GREENSWAP, offset 0x002 + k (R307). -/
  | rd8Greenswap (disp : BitVec 1) (k : BitVec 1)
  /-- `WR8` of byte `k` of GREENSWAP, offset 0x002 + k (R305). -/
  | wr8Greenswap (disp : BitVec 1) (k : BitVec 1) (data : Byte)
  /-- `RD8` of byte `k` of DISPSTAT, offset 0x004 + k (R309). -/
  | rd8Dispstat (disp : BitVec 1) (k : BitVec 1)
  /-- `WR8` of byte `k` of DISPSTAT, offset 0x004 + k (R308). -/
  | wr8Dispstat (disp : BitVec 1) (k : BitVec 1) (data : Byte)
  /-- `RD8` of byte `k` of VCOUNT, offset 0x006 + k (R311). -/
  | rd8Vcount (disp : BitVec 1) (k : BitVec 1)
  /-- `WR8` of byte `k` of VCOUNT, offset 0x006 + k (R310). -/
  | wr8Vcount (disp : BitVec 1) (k : BitVec 1) (data : Byte)
  /-- `RD8` of byte `k` of BG0CNT, offset 0x008 + k (R313). -/
  | rd8Bg0cnt (disp : BitVec 1) (k : BitVec 1)
  /-- `WR8` of byte `k` of BG0CNT, offset 0x008 + k (R312). -/
  | wr8Bg0cnt (disp : BitVec 1) (k : BitVec 1) (data : Byte)
  /-- `RD8` of byte `k` of BG1CNT, offset 0x00A + k (R313). -/
  | rd8Bg1cnt (disp : BitVec 1) (k : BitVec 1)
  /-- `WR8` of byte `k` of BG1CNT, offset 0x00A + k (R312). -/
  | wr8Bg1cnt (disp : BitVec 1) (k : BitVec 1) (data : Byte)
  /-- `RD8` of byte `k` of BG2CNT, offset 0x00C + k (R313). -/
  | rd8Bg2cnt (disp : BitVec 1) (k : BitVec 1)
  /-- `WR8` of byte `k` of BG2CNT, offset 0x00C + k (R312). -/
  | wr8Bg2cnt (disp : BitVec 1) (k : BitVec 1) (data : Byte)
  /-- `RD8` of byte `k` of BG3CNT, offset 0x00E + k (R313). -/
  | rd8Bg3cnt (disp : BitVec 1) (k : BitVec 1)
  /-- `WR8` of byte `k` of BG3CNT, offset 0x00E + k (R312). -/
  | wr8Bg3cnt (disp : BitVec 1) (k : BitVec 1) (data : Byte)
  /-- `RD8` of byte `k` of BG0HOFS, offset 0x010 + k (R302). -/
  | rd8Bg0hofs (disp : BitVec 1) (k : BitVec 1)
  /-- `WR8` of byte `k` of BG0HOFS, offset 0x010 + k (R314). -/
  | wr8Bg0hofs (disp : BitVec 1) (k : BitVec 1) (data : Byte)
  /-- `RD8` of byte `k` of BG0VOFS, offset 0x012 + k (R302). -/
  | rd8Bg0vofs (disp : BitVec 1) (k : BitVec 1)
  /-- `WR8` of byte `k` of BG0VOFS, offset 0x012 + k (R314). -/
  | wr8Bg0vofs (disp : BitVec 1) (k : BitVec 1) (data : Byte)
  /-- `RD8` of byte `k` of BG1HOFS, offset 0x014 + k (R302). -/
  | rd8Bg1hofs (disp : BitVec 1) (k : BitVec 1)
  /-- `WR8` of byte `k` of BG1HOFS, offset 0x014 + k (R314). -/
  | wr8Bg1hofs (disp : BitVec 1) (k : BitVec 1) (data : Byte)
  /-- `RD8` of byte `k` of BG1VOFS, offset 0x016 + k (R302). -/
  | rd8Bg1vofs (disp : BitVec 1) (k : BitVec 1)
  /-- `WR8` of byte `k` of BG1VOFS, offset 0x016 + k (R314). -/
  | wr8Bg1vofs (disp : BitVec 1) (k : BitVec 1) (data : Byte)
  /-- `RD8` of byte `k` of BG2HOFS, offset 0x018 + k (R302). -/
  | rd8Bg2hofs (disp : BitVec 1) (k : BitVec 1)
  /-- `WR8` of byte `k` of BG2HOFS, offset 0x018 + k (R314). -/
  | wr8Bg2hofs (disp : BitVec 1) (k : BitVec 1) (data : Byte)
  /-- `RD8` of byte `k` of BG2VOFS, offset 0x01A + k (R302). -/
  | rd8Bg2vofs (disp : BitVec 1) (k : BitVec 1)
  /-- `WR8` of byte `k` of BG2VOFS, offset 0x01A + k (R314). -/
  | wr8Bg2vofs (disp : BitVec 1) (k : BitVec 1) (data : Byte)
  /-- `RD8` of byte `k` of BG3HOFS, offset 0x01C + k (R302). -/
  | rd8Bg3hofs (disp : BitVec 1) (k : BitVec 1)
  /-- `WR8` of byte `k` of BG3HOFS, offset 0x01C + k (R314). -/
  | wr8Bg3hofs (disp : BitVec 1) (k : BitVec 1) (data : Byte)
  /-- `RD8` of byte `k` of BG3VOFS, offset 0x01E + k (R302). -/
  | rd8Bg3vofs (disp : BitVec 1) (k : BitVec 1)
  /-- `WR8` of byte `k` of BG3VOFS, offset 0x01E + k (R314). -/
  | wr8Bg3vofs (disp : BitVec 1) (k : BitVec 1) (data : Byte)
  /-- `RD8` of byte `k` of BG2PA, offset 0x020 + k (R302). -/
  | rd8Bg2pa (disp : BitVec 1) (k : BitVec 1)
  /-- `WR8` of byte `k` of BG2PA, offset 0x020 + k (R315). -/
  | wr8Bg2pa (disp : BitVec 1) (k : BitVec 1) (data : Byte)
  /-- `RD8` of byte `k` of BG2PB, offset 0x022 + k (R302). -/
  | rd8Bg2pb (disp : BitVec 1) (k : BitVec 1)
  /-- `WR8` of byte `k` of BG2PB, offset 0x022 + k (R315). -/
  | wr8Bg2pb (disp : BitVec 1) (k : BitVec 1) (data : Byte)
  /-- `RD8` of byte `k` of BG2PC, offset 0x024 + k (R302). -/
  | rd8Bg2pc (disp : BitVec 1) (k : BitVec 1)
  /-- `WR8` of byte `k` of BG2PC, offset 0x024 + k (R315). -/
  | wr8Bg2pc (disp : BitVec 1) (k : BitVec 1) (data : Byte)
  /-- `RD8` of byte `k` of BG2PD, offset 0x026 + k (R302). -/
  | rd8Bg2pd (disp : BitVec 1) (k : BitVec 1)
  /-- `WR8` of byte `k` of BG2PD, offset 0x026 + k (R315). -/
  | wr8Bg2pd (disp : BitVec 1) (k : BitVec 1) (data : Byte)
  /-- `RD8` of byte `k` of BG2X, offset 0x028 + k (R302). -/
  | rd8Bg2x (disp : BitVec 1) (k : BitVec 2)
  /-- `WR8` of byte `k` of BG2X, offset 0x028 + k (R316). -/
  | wr8Bg2x (disp : BitVec 1) (k : BitVec 2) (data : Byte)
  /-- `RD8` of byte `k` of BG2Y, offset 0x02C + k (R302). -/
  | rd8Bg2y (disp : BitVec 1) (k : BitVec 2)
  /-- `WR8` of byte `k` of BG2Y, offset 0x02C + k (R316). -/
  | wr8Bg2y (disp : BitVec 1) (k : BitVec 2) (data : Byte)
  /-- `RD8` of byte `k` of BG3PA, offset 0x030 + k (R302). -/
  | rd8Bg3pa (disp : BitVec 1) (k : BitVec 1)
  /-- `WR8` of byte `k` of BG3PA, offset 0x030 + k (R315). -/
  | wr8Bg3pa (disp : BitVec 1) (k : BitVec 1) (data : Byte)
  /-- `RD8` of byte `k` of BG3PB, offset 0x032 + k (R302). -/
  | rd8Bg3pb (disp : BitVec 1) (k : BitVec 1)
  /-- `WR8` of byte `k` of BG3PB, offset 0x032 + k (R315). -/
  | wr8Bg3pb (disp : BitVec 1) (k : BitVec 1) (data : Byte)
  /-- `RD8` of byte `k` of BG3PC, offset 0x034 + k (R302). -/
  | rd8Bg3pc (disp : BitVec 1) (k : BitVec 1)
  /-- `WR8` of byte `k` of BG3PC, offset 0x034 + k (R315). -/
  | wr8Bg3pc (disp : BitVec 1) (k : BitVec 1) (data : Byte)
  /-- `RD8` of byte `k` of BG3PD, offset 0x036 + k (R302). -/
  | rd8Bg3pd (disp : BitVec 1) (k : BitVec 1)
  /-- `WR8` of byte `k` of BG3PD, offset 0x036 + k (R315). -/
  | wr8Bg3pd (disp : BitVec 1) (k : BitVec 1) (data : Byte)
  /-- `RD8` of byte `k` of BG3X, offset 0x038 + k (R302). -/
  | rd8Bg3x (disp : BitVec 1) (k : BitVec 2)
  /-- `WR8` of byte `k` of BG3X, offset 0x038 + k (R316). -/
  | wr8Bg3x (disp : BitVec 1) (k : BitVec 2) (data : Byte)
  /-- `RD8` of byte `k` of BG3Y, offset 0x03C + k (R302). -/
  | rd8Bg3y (disp : BitVec 1) (k : BitVec 2)
  /-- `WR8` of byte `k` of BG3Y, offset 0x03C + k (R316). -/
  | wr8Bg3y (disp : BitVec 1) (k : BitVec 2) (data : Byte)
  /-- `RD8` of byte `k` of WIN0H, offset 0x040 + k (R302). -/
  | rd8Win0h (disp : BitVec 1) (k : BitVec 1)
  /-- `WR8` of byte `k` of WIN0H, offset 0x040 + k (R317). -/
  | wr8Win0h (disp : BitVec 1) (k : BitVec 1) (data : Byte)
  /-- `RD8` of byte `k` of WIN1H, offset 0x042 + k (R302). -/
  | rd8Win1h (disp : BitVec 1) (k : BitVec 1)
  /-- `WR8` of byte `k` of WIN1H, offset 0x042 + k (R317). -/
  | wr8Win1h (disp : BitVec 1) (k : BitVec 1) (data : Byte)
  /-- `RD8` of byte `k` of WIN0V, offset 0x044 + k (R302). -/
  | rd8Win0v (disp : BitVec 1) (k : BitVec 1)
  /-- `WR8` of byte `k` of WIN0V, offset 0x044 + k (R318). -/
  | wr8Win0v (disp : BitVec 1) (k : BitVec 1) (data : Byte)
  /-- `RD8` of byte `k` of WIN1V, offset 0x046 + k (R302). -/
  | rd8Win1v (disp : BitVec 1) (k : BitVec 1)
  /-- `WR8` of byte `k` of WIN1V, offset 0x046 + k (R318). -/
  | wr8Win1v (disp : BitVec 1) (k : BitVec 1) (data : Byte)
  /-- `RD8` of byte `k` of WININ, offset 0x048 + k (R320). -/
  | rd8Winin (disp : BitVec 1) (k : BitVec 1)
  /-- `WR8` of byte `k` of WININ, offset 0x048 + k (R319). -/
  | wr8Winin (disp : BitVec 1) (k : BitVec 1) (data : Byte)
  /-- `RD8` of byte `k` of WINOUT, offset 0x04A + k (R322). -/
  | rd8Winout (disp : BitVec 1) (k : BitVec 1)
  /-- `WR8` of byte `k` of WINOUT, offset 0x04A + k (R321). -/
  | wr8Winout (disp : BitVec 1) (k : BitVec 1) (data : Byte)
  /-- `RD8` of byte `k` of MOSAIC, offset 0x04C + k (R302). -/
  | rd8Mosaic (disp : BitVec 1) (k : BitVec 1)
  /-- `WR8` of byte `k` of MOSAIC, offset 0x04C + k (R323). -/
  | wr8Mosaic (disp : BitVec 1) (k : BitVec 1) (data : Byte)
  /-- `RD8` of byte `k` of UNUSED_04E, offset 0x04E + k (R303). -/
  | rd8Unused04e (disp : BitVec 1) (k : BitVec 1)
  /-- `WR8` of byte `k` of UNUSED_04E, offset 0x04E + k (R303). -/
  | wr8Unused04e (disp : BitVec 1) (k : BitVec 1) (data : Byte)
  /-- `RD8` of byte `k` of BLDCNT, offset 0x050 + k (R325). -/
  | rd8Bldcnt (disp : BitVec 1) (k : BitVec 1)
  /-- `WR8` of byte `k` of BLDCNT, offset 0x050 + k (R324). -/
  | wr8Bldcnt (disp : BitVec 1) (k : BitVec 1) (data : Byte)
  /-- `RD8` of byte `k` of BLDALPHA, offset 0x052 + k (R327). -/
  | rd8Bldalpha (disp : BitVec 1) (k : BitVec 1)
  /-- `WR8` of byte `k` of BLDALPHA, offset 0x052 + k (R326). -/
  | wr8Bldalpha (disp : BitVec 1) (k : BitVec 1) (data : Byte)
  /-- `RD8` of byte `k` of BLDY, offset 0x054 + k (R302). -/
  | rd8Bldy (disp : BitVec 1) (k : BitVec 1)
  /-- `WR8` of byte `k` of BLDY, offset 0x054 + k (R328). -/
  | wr8Bldy (disp : BitVec 1) (k : BitVec 1) (data : Byte)
  /-- `RD8` of byte `k` of UNUSED_056, offset 0x056 + k (R303). -/
  | rd8Unused056 (disp : BitVec 1) (k : BitVec 1)
  /-- `WR8` of byte `k` of UNUSED_056, offset 0x056 + k (R303). -/
  | wr8Unused056 (disp : BitVec 1) (k : BitVec 1) (data : Byte)
  /-- `RD8` of byte `k` of UNUSED_058, offset 0x058 + k (R303). -/
  | rd8Unused058 (disp : BitVec 1) (k : BitVec 3)
  /-- `WR8` of byte `k` of UNUSED_058, offset 0x058 + k (R303). -/
  | wr8Unused058 (disp : BitVec 1) (k : BitVec 3) (data : Byte)
  /-- `RD8` with `OFF` at or above 0x060: refused (R210). -/
  | rd8OffOutOfRange (disp : BitVec 1) (off : BitVec 12)
  /-- `WR8` with `OFF` at or above 0x060: refused (R210). -/
  | wr8OffOutOfRange (disp : BitVec 1) (off : BitVec 12) (data : Byte)
  /-- `TICK n`: advance time by `n` ticks (R206, R401). -/
  | tick (n : BitVec 29)
  /-- `ACK`: the host clears the frame-ready flag (R207, R330). -/
  | ack (disp : BitVec 1)
  /-- `MEMWR8 PAL`: the environment stores a byte into palette memory (R208, R340). -/
  | memwr8Pal (disp : BitVec 1) (addr : BitVec 17) (data : Byte)
  /-- `MEMWR8 VRAM`: the environment stores a byte into video memory (R208, R340). -/
  | memwr8Vram (disp : BitVec 1) (addr : BitVec 17) (data : Byte)
  /-- `MEMWR8 OAM`: the environment stores a byte into the sprite attribute table (R208, R340). -/
  | memwr8Oam (disp : BitVec 1) (addr : BitVec 17) (data : Byte)
  /-- `MEMWR8` with `SPACE = 0b11`: refused (R210). `payload` is the rest of the word, bits 26..0. -/
  | memwr8ReservedSpace (payload : BitVec 27)
  /-- `RDPIX x, y`: the host reads a pixel of the front buffer (R209, R331). -/
  | rdpix (disp : BitVec 1) (y : BitVec 8) (x : BitVec 8)
  /-- A word of the reserved kind 0b110: refused (R210). -/
  | reservedKind6 (payload : BitVec 29)
  /-- A word of the reserved kind 0b111: refused (R210). -/
  | reservedKind7 (payload : BitVec 29)
deriving DecidableEq, Repr

end Sys2Proof
end

