-- ==== Sys2Proof/WellFormed.lean ====
section
/-! DEFINITION. What a transaction must satisfy: to be the reading of some port word (`wellFormed`), and to be
admitted by the range limits of 30_encoding.md R210 under a configuration (`legal`). -/

namespace Sys2Proof

/-- The instruction is the reading of some port word. Every field fits its width by its type; the one limit left is
that an out-of-range offset is out of range, at or above 0x060 (R204, R205, R210). -/
def Instr.wellFormed : Instr → Bool
  | .rd8OffOutOfRange _ off => decide (0x060 ≤ off.toNat)
  | .wr8OffOutOfRange _ off _ => decide (0x060 ≤ off.toNat)
  | .rd8Dispcnt _ _ | .rd8Greenswap _ _ | .rd8Dispstat _ _ | .rd8Vcount _ _
  | .rd8Bg0cnt _ _ | .rd8Bg1cnt _ _ | .rd8Bg2cnt _ _ | .rd8Bg3cnt _ _
  | .rd8Bg0hofs _ _ | .rd8Bg0vofs _ _ | .rd8Bg1hofs _ _ | .rd8Bg1vofs _ _
  | .rd8Bg2hofs _ _ | .rd8Bg2vofs _ _ | .rd8Bg3hofs _ _ | .rd8Bg3vofs _ _
  | .rd8Bg2pa _ _ | .rd8Bg2pb _ _ | .rd8Bg2pc _ _ | .rd8Bg2pd _ _
  | .rd8Bg2x _ _ | .rd8Bg2y _ _ | .rd8Bg3pa _ _ | .rd8Bg3pb _ _
  | .rd8Bg3pc _ _ | .rd8Bg3pd _ _ | .rd8Bg3x _ _ | .rd8Bg3y _ _
  | .rd8Win0h _ _ | .rd8Win1h _ _ | .rd8Win0v _ _ | .rd8Win1v _ _
  | .rd8Winin _ _ | .rd8Winout _ _ | .rd8Mosaic _ _ | .rd8Unused04e _ _
  | .rd8Bldcnt _ _ | .rd8Bldalpha _ _ | .rd8Bldy _ _ | .rd8Unused056 _ _
  | .rd8Unused058 _ _
  | .wr8Dispcnt _ _ _ | .wr8Greenswap _ _ _ | .wr8Dispstat _ _ _ | .wr8Vcount _ _ _
  | .wr8Bg0cnt _ _ _ | .wr8Bg1cnt _ _ _ | .wr8Bg2cnt _ _ _ | .wr8Bg3cnt _ _ _
  | .wr8Bg0hofs _ _ _ | .wr8Bg0vofs _ _ _ | .wr8Bg1hofs _ _ _ | .wr8Bg1vofs _ _ _
  | .wr8Bg2hofs _ _ _ | .wr8Bg2vofs _ _ _ | .wr8Bg3hofs _ _ _ | .wr8Bg3vofs _ _ _
  | .wr8Bg2pa _ _ _ | .wr8Bg2pb _ _ _ | .wr8Bg2pc _ _ _ | .wr8Bg2pd _ _ _
  | .wr8Bg2x _ _ _ | .wr8Bg2y _ _ _ | .wr8Bg3pa _ _ _ | .wr8Bg3pb _ _ _
  | .wr8Bg3pc _ _ _ | .wr8Bg3pd _ _ _ | .wr8Bg3x _ _ _ | .wr8Bg3y _ _ _
  | .wr8Win0h _ _ _ | .wr8Win1h _ _ _ | .wr8Win0v _ _ _ | .wr8Win1v _ _ _
  | .wr8Winin _ _ _ | .wr8Winout _ _ _ | .wr8Mosaic _ _ _ | .wr8Unused04e _ _ _
  | .wr8Bldcnt _ _ _ | .wr8Bldalpha _ _ _ | .wr8Bldy _ _ _ | .wr8Unused056 _ _ _
  | .wr8Unused058 _ _ _
  | .tick _ | .ack _ | .memwr8Pal _ _ _ | .memwr8Vram _ _ _ | .memwr8Oam _ _ _
  | .memwr8ReservedSpace _ | .rdpix _ _ _ | .reservedKind6 _ | .reservedKind7 _ => true

/-- `DISP < NUM_DISPLAYS` (R210). -/
def dispInRange (c : Config) (disp : BitVec 1) : Bool := decide (disp.toNat < c.numDisplays)

/-- The instruction is within the limits of R210 under the configuration `c`: its display instance exists, its
address is below the size of its space, its pixel is on the screen, and it is no row that R210 refuses outright. -/
def Instr.legal (c : Config) : Instr → Bool
  | .rd8Dispcnt d _ | .rd8Greenswap d _ | .rd8Dispstat d _ | .rd8Vcount d _
  | .rd8Bg0cnt d _ | .rd8Bg1cnt d _ | .rd8Bg2cnt d _ | .rd8Bg3cnt d _
  | .rd8Bg0hofs d _ | .rd8Bg0vofs d _ | .rd8Bg1hofs d _ | .rd8Bg1vofs d _
  | .rd8Bg2hofs d _ | .rd8Bg2vofs d _ | .rd8Bg3hofs d _ | .rd8Bg3vofs d _
  | .rd8Bg2pa d _ | .rd8Bg2pb d _ | .rd8Bg2pc d _ | .rd8Bg2pd d _
  | .rd8Bg2x d _ | .rd8Bg2y d _ | .rd8Bg3pa d _ | .rd8Bg3pb d _
  | .rd8Bg3pc d _ | .rd8Bg3pd d _ | .rd8Bg3x d _ | .rd8Bg3y d _
  | .rd8Win0h d _ | .rd8Win1h d _ | .rd8Win0v d _ | .rd8Win1v d _
  | .rd8Winin d _ | .rd8Winout d _ | .rd8Mosaic d _ | .rd8Unused04e d _
  | .rd8Bldcnt d _ | .rd8Bldalpha d _ | .rd8Bldy d _ | .rd8Unused056 d _
  | .rd8Unused058 d _
  | .wr8Dispcnt d _ _ | .wr8Greenswap d _ _ | .wr8Dispstat d _ _ | .wr8Vcount d _ _
  | .wr8Bg0cnt d _ _ | .wr8Bg1cnt d _ _ | .wr8Bg2cnt d _ _ | .wr8Bg3cnt d _ _
  | .wr8Bg0hofs d _ _ | .wr8Bg0vofs d _ _ | .wr8Bg1hofs d _ _ | .wr8Bg1vofs d _ _
  | .wr8Bg2hofs d _ _ | .wr8Bg2vofs d _ _ | .wr8Bg3hofs d _ _ | .wr8Bg3vofs d _ _
  | .wr8Bg2pa d _ _ | .wr8Bg2pb d _ _ | .wr8Bg2pc d _ _ | .wr8Bg2pd d _ _
  | .wr8Bg2x d _ _ | .wr8Bg2y d _ _ | .wr8Bg3pa d _ _ | .wr8Bg3pb d _ _
  | .wr8Bg3pc d _ _ | .wr8Bg3pd d _ _ | .wr8Bg3x d _ _ | .wr8Bg3y d _ _
  | .wr8Win0h d _ _ | .wr8Win1h d _ _ | .wr8Win0v d _ _ | .wr8Win1v d _ _
  | .wr8Winin d _ _ | .wr8Winout d _ _ | .wr8Mosaic d _ _ | .wr8Unused04e d _ _
  | .wr8Bldcnt d _ _ | .wr8Bldalpha d _ _ | .wr8Bldy d _ _ | .wr8Unused056 d _ _
  | .wr8Unused058 d _ _
  | .ack d => dispInRange c d
  | .tick _ => true
  | .memwr8Pal d addr _ => dispInRange c d && decide (addr.toNat < c.palBytes)
  | .memwr8Vram d addr _ => dispInRange c d && decide (addr.toNat < c.vramBytes)
  | .memwr8Oam d addr _ => dispInRange c d && decide (addr.toNat < c.oamBytes)
  | .rdpix d y x => dispInRange c d && decide (x.toNat < c.screenW) && decide (y.toNat < c.screenH)
  | .rd8OffOutOfRange _ _ | .wr8OffOutOfRange _ _ _ | .memwr8ReservedSpace _
  | .reservedKind6 _ | .reservedKind7 _ => false

/-- `KIND`, the transaction's kind (30_encoding.md R203). -/
def Instr.kind : Instr → BitVec 3
  | .rd8Dispcnt _ _ | .rd8Greenswap _ _ | .rd8Dispstat _ _ | .rd8Vcount _ _
  | .rd8Bg0cnt _ _ | .rd8Bg1cnt _ _ | .rd8Bg2cnt _ _ | .rd8Bg3cnt _ _
  | .rd8Bg0hofs _ _ | .rd8Bg0vofs _ _ | .rd8Bg1hofs _ _ | .rd8Bg1vofs _ _
  | .rd8Bg2hofs _ _ | .rd8Bg2vofs _ _ | .rd8Bg3hofs _ _ | .rd8Bg3vofs _ _
  | .rd8Bg2pa _ _ | .rd8Bg2pb _ _ | .rd8Bg2pc _ _ | .rd8Bg2pd _ _
  | .rd8Bg2x _ _ | .rd8Bg2y _ _ | .rd8Bg3pa _ _ | .rd8Bg3pb _ _
  | .rd8Bg3pc _ _ | .rd8Bg3pd _ _ | .rd8Bg3x _ _ | .rd8Bg3y _ _
  | .rd8Win0h _ _ | .rd8Win1h _ _ | .rd8Win0v _ _ | .rd8Win1v _ _
  | .rd8Winin _ _ | .rd8Winout _ _ | .rd8Mosaic _ _ | .rd8Unused04e _ _
  | .rd8Bldcnt _ _ | .rd8Bldalpha _ _ | .rd8Bldy _ _ | .rd8Unused056 _ _
  | .rd8Unused058 _ _
  | .rd8OffOutOfRange _ _ => 0b000
  | .wr8Dispcnt _ _ _ | .wr8Greenswap _ _ _ | .wr8Dispstat _ _ _ | .wr8Vcount _ _ _
  | .wr8Bg0cnt _ _ _ | .wr8Bg1cnt _ _ _ | .wr8Bg2cnt _ _ _ | .wr8Bg3cnt _ _ _
  | .wr8Bg0hofs _ _ _ | .wr8Bg0vofs _ _ _ | .wr8Bg1hofs _ _ _ | .wr8Bg1vofs _ _ _
  | .wr8Bg2hofs _ _ _ | .wr8Bg2vofs _ _ _ | .wr8Bg3hofs _ _ _ | .wr8Bg3vofs _ _ _
  | .wr8Bg2pa _ _ _ | .wr8Bg2pb _ _ _ | .wr8Bg2pc _ _ _ | .wr8Bg2pd _ _ _
  | .wr8Bg2x _ _ _ | .wr8Bg2y _ _ _ | .wr8Bg3pa _ _ _ | .wr8Bg3pb _ _ _
  | .wr8Bg3pc _ _ _ | .wr8Bg3pd _ _ _ | .wr8Bg3x _ _ _ | .wr8Bg3y _ _ _
  | .wr8Win0h _ _ _ | .wr8Win1h _ _ _ | .wr8Win0v _ _ _ | .wr8Win1v _ _ _
  | .wr8Winin _ _ _ | .wr8Winout _ _ _ | .wr8Mosaic _ _ _ | .wr8Unused04e _ _ _
  | .wr8Bldcnt _ _ _ | .wr8Bldalpha _ _ _ | .wr8Bldy _ _ _ | .wr8Unused056 _ _ _
  | .wr8Unused058 _ _ _
  | .wr8OffOutOfRange _ _ _ => 0b001
  | .tick _ => 0b010
  | .ack _ => 0b011
  | .memwr8Pal _ _ _ | .memwr8Vram _ _ _ | .memwr8Oam _ _ _ | .memwr8ReservedSpace _ => 0b100
  | .rdpix _ _ _ => 0b101
  | .reservedKind6 _ => 0b110
  | .reservedKind7 _ => 0b111

/-- The port words R210 refuses, read off their bits: a reserved kind, a must-be-zero field that is not zero (R204-R209),
or a display instance, offset, space, address or pixel out of range. -/
def badPortWord (c : Config) (w : PortWord) : Bool :=
  let bits (lo len : Nat) : Nat := (w.toNat >>> lo) % 2 ^ len
  match bits 29 3 with
  | 0 => bits 13 16 != 0 || decide (c.numDisplays ≤ bits 12 1) || decide (0x060 ≤ bits 0 12)
  | 1 => bits 24 5 != 0 || bits 13 3 != 0 || decide (c.numDisplays ≤ bits 12 1) || decide (0x060 ≤ bits 0 12)
  | 2 => false
  | 3 => bits 13 16 != 0 || bits 0 12 != 0 || decide (c.numDisplays ≤ bits 12 1)
  | 4 =>
    bits 25 1 != 0 || decide (c.numDisplays ≤ bits 26 1) ||
      (match bits 27 2 with
      | 0 => decide (c.palBytes ≤ bits 8 17)
      | 1 => decide (c.vramBytes ≤ bits 8 17)
      | 2 => decide (c.oamBytes ≤ bits 8 17)
      | _ => true)
  | 5 =>
    bits 17 12 != 0 || decide (c.numDisplays ≤ bits 16 1) || decide (c.screenH ≤ bits 8 8) ||
      decide (c.screenW ≤ bits 0 8)
  | _ => true

end Sys2Proof
end

