-- ==== Sys2Proof/Decode.lean ====
section
/-! DEFINITION. The decoder of port words and the encoder of transactions, both from 30_encoding.md R203-R213. -/

namespace Sys2Proof

/-- Why a port word is no row of the opcode table: a must-be-zero field of its format is not zero (R210). -/
inductive DecodeError where
  /-- `RD8` with a bit of [28:13] set (R204). -/
  | rd8MustBeZero
  /-- `WR8` with a bit of [28:24] or [15:13] set (R205). -/
  | wr8MustBeZero
  /-- `ACK` with a bit of [28:13] or [11:0] set (R207). -/
  | ackMustBeZero
  /-- `MEMWR8` to an existing space with bit [25] set (R208). -/
  | memwr8MustBeZero
  /-- `RDPIX` with a bit of [28:17] set (R209). -/
  | rdpixMustBeZero
deriving DecidableEq, Repr

/-- The register slot and byte index an `RD8` offset addresses, bits [11:1] selecting the 16-bit slot (R212, R213). -/
def decodeRd8 (disp : BitVec 1) (off : BitVec 12) : Instr :=
  match (off.extractLsb' 1 11).toNat with
  | 0x00 => .rd8Dispcnt disp (off.extractLsb' 0 1)
  | 0x01 => .rd8Greenswap disp (off.extractLsb' 0 1)
  | 0x02 => .rd8Dispstat disp (off.extractLsb' 0 1)
  | 0x03 => .rd8Vcount disp (off.extractLsb' 0 1)
  | 0x04 => .rd8Bg0cnt disp (off.extractLsb' 0 1)
  | 0x05 => .rd8Bg1cnt disp (off.extractLsb' 0 1)
  | 0x06 => .rd8Bg2cnt disp (off.extractLsb' 0 1)
  | 0x07 => .rd8Bg3cnt disp (off.extractLsb' 0 1)
  | 0x08 => .rd8Bg0hofs disp (off.extractLsb' 0 1)
  | 0x09 => .rd8Bg0vofs disp (off.extractLsb' 0 1)
  | 0x0A => .rd8Bg1hofs disp (off.extractLsb' 0 1)
  | 0x0B => .rd8Bg1vofs disp (off.extractLsb' 0 1)
  | 0x0C => .rd8Bg2hofs disp (off.extractLsb' 0 1)
  | 0x0D => .rd8Bg2vofs disp (off.extractLsb' 0 1)
  | 0x0E => .rd8Bg3hofs disp (off.extractLsb' 0 1)
  | 0x0F => .rd8Bg3vofs disp (off.extractLsb' 0 1)
  | 0x10 => .rd8Bg2pa disp (off.extractLsb' 0 1)
  | 0x11 => .rd8Bg2pb disp (off.extractLsb' 0 1)
  | 0x12 => .rd8Bg2pc disp (off.extractLsb' 0 1)
  | 0x13 => .rd8Bg2pd disp (off.extractLsb' 0 1)
  | 0x14 | 0x15 => .rd8Bg2x disp (off.extractLsb' 0 2)
  | 0x16 | 0x17 => .rd8Bg2y disp (off.extractLsb' 0 2)
  | 0x18 => .rd8Bg3pa disp (off.extractLsb' 0 1)
  | 0x19 => .rd8Bg3pb disp (off.extractLsb' 0 1)
  | 0x1A => .rd8Bg3pc disp (off.extractLsb' 0 1)
  | 0x1B => .rd8Bg3pd disp (off.extractLsb' 0 1)
  | 0x1C | 0x1D => .rd8Bg3x disp (off.extractLsb' 0 2)
  | 0x1E | 0x1F => .rd8Bg3y disp (off.extractLsb' 0 2)
  | 0x20 => .rd8Win0h disp (off.extractLsb' 0 1)
  | 0x21 => .rd8Win1h disp (off.extractLsb' 0 1)
  | 0x22 => .rd8Win0v disp (off.extractLsb' 0 1)
  | 0x23 => .rd8Win1v disp (off.extractLsb' 0 1)
  | 0x24 => .rd8Winin disp (off.extractLsb' 0 1)
  | 0x25 => .rd8Winout disp (off.extractLsb' 0 1)
  | 0x26 => .rd8Mosaic disp (off.extractLsb' 0 1)
  | 0x27 => .rd8Unused04e disp (off.extractLsb' 0 1)
  | 0x28 => .rd8Bldcnt disp (off.extractLsb' 0 1)
  | 0x29 => .rd8Bldalpha disp (off.extractLsb' 0 1)
  | 0x2A => .rd8Bldy disp (off.extractLsb' 0 1)
  | 0x2B => .rd8Unused056 disp (off.extractLsb' 0 1)
  | 0x2C | 0x2D | 0x2E | 0x2F => .rd8Unused058 disp (off.extractLsb' 0 3)
  | _ => .rd8OffOutOfRange disp off

/-- The register slot and byte index a `WR8` offset addresses (R212, R213). -/
def decodeWr8 (disp : BitVec 1) (off : BitVec 12) (data : Byte) : Instr :=
  match (off.extractLsb' 1 11).toNat with
  | 0x00 => .wr8Dispcnt disp (off.extractLsb' 0 1) data
  | 0x01 => .wr8Greenswap disp (off.extractLsb' 0 1) data
  | 0x02 => .wr8Dispstat disp (off.extractLsb' 0 1) data
  | 0x03 => .wr8Vcount disp (off.extractLsb' 0 1) data
  | 0x04 => .wr8Bg0cnt disp (off.extractLsb' 0 1) data
  | 0x05 => .wr8Bg1cnt disp (off.extractLsb' 0 1) data
  | 0x06 => .wr8Bg2cnt disp (off.extractLsb' 0 1) data
  | 0x07 => .wr8Bg3cnt disp (off.extractLsb' 0 1) data
  | 0x08 => .wr8Bg0hofs disp (off.extractLsb' 0 1) data
  | 0x09 => .wr8Bg0vofs disp (off.extractLsb' 0 1) data
  | 0x0A => .wr8Bg1hofs disp (off.extractLsb' 0 1) data
  | 0x0B => .wr8Bg1vofs disp (off.extractLsb' 0 1) data
  | 0x0C => .wr8Bg2hofs disp (off.extractLsb' 0 1) data
  | 0x0D => .wr8Bg2vofs disp (off.extractLsb' 0 1) data
  | 0x0E => .wr8Bg3hofs disp (off.extractLsb' 0 1) data
  | 0x0F => .wr8Bg3vofs disp (off.extractLsb' 0 1) data
  | 0x10 => .wr8Bg2pa disp (off.extractLsb' 0 1) data
  | 0x11 => .wr8Bg2pb disp (off.extractLsb' 0 1) data
  | 0x12 => .wr8Bg2pc disp (off.extractLsb' 0 1) data
  | 0x13 => .wr8Bg2pd disp (off.extractLsb' 0 1) data
  | 0x14 | 0x15 => .wr8Bg2x disp (off.extractLsb' 0 2) data
  | 0x16 | 0x17 => .wr8Bg2y disp (off.extractLsb' 0 2) data
  | 0x18 => .wr8Bg3pa disp (off.extractLsb' 0 1) data
  | 0x19 => .wr8Bg3pb disp (off.extractLsb' 0 1) data
  | 0x1A => .wr8Bg3pc disp (off.extractLsb' 0 1) data
  | 0x1B => .wr8Bg3pd disp (off.extractLsb' 0 1) data
  | 0x1C | 0x1D => .wr8Bg3x disp (off.extractLsb' 0 2) data
  | 0x1E | 0x1F => .wr8Bg3y disp (off.extractLsb' 0 2) data
  | 0x20 => .wr8Win0h disp (off.extractLsb' 0 1) data
  | 0x21 => .wr8Win1h disp (off.extractLsb' 0 1) data
  | 0x22 => .wr8Win0v disp (off.extractLsb' 0 1) data
  | 0x23 => .wr8Win1v disp (off.extractLsb' 0 1) data
  | 0x24 => .wr8Winin disp (off.extractLsb' 0 1) data
  | 0x25 => .wr8Winout disp (off.extractLsb' 0 1) data
  | 0x26 => .wr8Mosaic disp (off.extractLsb' 0 1) data
  | 0x27 => .wr8Unused04e disp (off.extractLsb' 0 1) data
  | 0x28 => .wr8Bldcnt disp (off.extractLsb' 0 1) data
  | 0x29 => .wr8Bldalpha disp (off.extractLsb' 0 1) data
  | 0x2A => .wr8Bldy disp (off.extractLsb' 0 1) data
  | 0x2B => .wr8Unused056 disp (off.extractLsb' 0 1) data
  | 0x2C | 0x2D | 0x2E | 0x2F => .wr8Unused058 disp (off.extractLsb' 0 3) data
  | _ => .wr8OffOutOfRange disp off data

/-- `MEMWR8` by its space, bits [28:27] (R208). The reserved space is a row of its own, whatever the other bits. -/
def decodeMemwr8 (w : PortWord) : Except DecodeError Instr :=
  match (w.extractLsb' 27 2).toNat with
  | 3 => .ok (.memwr8ReservedSpace (w.extractLsb' 0 27))
  | sp =>
    if w.extractLsb' 25 1 = 0 then
      let disp := w.extractLsb' 26 1
      let addr := w.extractLsb' 8 17
      let data := w.extractLsb' 0 8
      match sp with
      | 0 => .ok (.memwr8Pal disp addr data)
      | 1 => .ok (.memwr8Vram disp addr data)
      | _ => .ok (.memwr8Oam disp addr data)
    else .error .memwr8MustBeZero

/-- The decoder (R232): total on 32-bit words. It reads KIND, checks the must-be-zero fields of the format and
extracts the fields. The limits of R210 that depend on the configuration (DISP, ADDR, X, Y) are checked by the
transaction itself (`Machine.State.transact`). -/
def decode (w : PortWord) : Except DecodeError Instr :=
  match (w.extractLsb' 29 3).toNat with
  | 0 =>
    if w.extractLsb' 13 16 = 0 then .ok (decodeRd8 (w.extractLsb' 12 1) (w.extractLsb' 0 12))
    else .error .rd8MustBeZero
  | 1 =>
    if w.extractLsb' 24 5 = 0 ∧ w.extractLsb' 13 3 = 0 then
      .ok (decodeWr8 (w.extractLsb' 12 1) (w.extractLsb' 0 12) (w.extractLsb' 16 8))
    else .error .wr8MustBeZero
  | 2 => .ok (.tick (w.extractLsb' 0 29))
  | 3 =>
    if w.extractLsb' 13 16 = 0 ∧ w.extractLsb' 0 12 = 0 then .ok (.ack (w.extractLsb' 12 1))
    else .error .ackMustBeZero
  | 4 => decodeMemwr8 w
  | 5 =>
    if w.extractLsb' 17 12 = 0 then
      .ok (.rdpix (w.extractLsb' 16 1) (w.extractLsb' 8 8) (w.extractLsb' 0 8))
    else .error .rdpixMustBeZero
  | 6 => .ok (.reservedKind6 (w.extractLsb' 0 29))
  | _ => .ok (.reservedKind7 (w.extractLsb' 0 29))

/-- The word of an `RD8` (R204). -/
def rd8Word (disp : BitVec 1) (off : BitVec 12) : PortWord :=
  0b000#3 ++ (0#16 ++ (disp ++ off))

/-- The word of a `WR8` (R205). -/
def wr8Word (disp : BitVec 1) (off : BitVec 12) (data : Byte) : PortWord :=
  0b001#3 ++ (0#5 ++ (data ++ (0#3 ++ (disp ++ off))))

/-- The word of a `MEMWR8` to the space with the given code (R208). -/
def memwr8Word (space : BitVec 2) (disp : BitVec 1) (addr : BitVec 17) (data : Byte) : PortWord :=
  0b100#3 ++ (space ++ (disp ++ (0#1 ++ (addr ++ data))))

/-- The encoder: the port word of an instruction, from the formats R204-R209 and the offset map R212. -/
def encode : Instr → PortWord
  | .rd8Dispcnt disp k => rd8Word disp (0x00#11 ++ k)
  | .rd8Greenswap disp k => rd8Word disp (0x01#11 ++ k)
  | .rd8Dispstat disp k => rd8Word disp (0x02#11 ++ k)
  | .rd8Vcount disp k => rd8Word disp (0x03#11 ++ k)
  | .rd8Bg0cnt disp k => rd8Word disp (0x04#11 ++ k)
  | .rd8Bg1cnt disp k => rd8Word disp (0x05#11 ++ k)
  | .rd8Bg2cnt disp k => rd8Word disp (0x06#11 ++ k)
  | .rd8Bg3cnt disp k => rd8Word disp (0x07#11 ++ k)
  | .rd8Bg0hofs disp k => rd8Word disp (0x08#11 ++ k)
  | .rd8Bg0vofs disp k => rd8Word disp (0x09#11 ++ k)
  | .rd8Bg1hofs disp k => rd8Word disp (0x0A#11 ++ k)
  | .rd8Bg1vofs disp k => rd8Word disp (0x0B#11 ++ k)
  | .rd8Bg2hofs disp k => rd8Word disp (0x0C#11 ++ k)
  | .rd8Bg2vofs disp k => rd8Word disp (0x0D#11 ++ k)
  | .rd8Bg3hofs disp k => rd8Word disp (0x0E#11 ++ k)
  | .rd8Bg3vofs disp k => rd8Word disp (0x0F#11 ++ k)
  | .rd8Bg2pa disp k => rd8Word disp (0x10#11 ++ k)
  | .rd8Bg2pb disp k => rd8Word disp (0x11#11 ++ k)
  | .rd8Bg2pc disp k => rd8Word disp (0x12#11 ++ k)
  | .rd8Bg2pd disp k => rd8Word disp (0x13#11 ++ k)
  | .rd8Bg2x disp k => rd8Word disp (0x0A#10 ++ k)
  | .rd8Bg2y disp k => rd8Word disp (0x0B#10 ++ k)
  | .rd8Bg3pa disp k => rd8Word disp (0x18#11 ++ k)
  | .rd8Bg3pb disp k => rd8Word disp (0x19#11 ++ k)
  | .rd8Bg3pc disp k => rd8Word disp (0x1A#11 ++ k)
  | .rd8Bg3pd disp k => rd8Word disp (0x1B#11 ++ k)
  | .rd8Bg3x disp k => rd8Word disp (0x0E#10 ++ k)
  | .rd8Bg3y disp k => rd8Word disp (0x0F#10 ++ k)
  | .rd8Win0h disp k => rd8Word disp (0x20#11 ++ k)
  | .rd8Win1h disp k => rd8Word disp (0x21#11 ++ k)
  | .rd8Win0v disp k => rd8Word disp (0x22#11 ++ k)
  | .rd8Win1v disp k => rd8Word disp (0x23#11 ++ k)
  | .rd8Winin disp k => rd8Word disp (0x24#11 ++ k)
  | .rd8Winout disp k => rd8Word disp (0x25#11 ++ k)
  | .rd8Mosaic disp k => rd8Word disp (0x26#11 ++ k)
  | .rd8Unused04e disp k => rd8Word disp (0x27#11 ++ k)
  | .rd8Bldcnt disp k => rd8Word disp (0x28#11 ++ k)
  | .rd8Bldalpha disp k => rd8Word disp (0x29#11 ++ k)
  | .rd8Bldy disp k => rd8Word disp (0x2A#11 ++ k)
  | .rd8Unused056 disp k => rd8Word disp (0x2B#11 ++ k)
  | .rd8Unused058 disp k => rd8Word disp (0x0B#9 ++ k)
  | .wr8Dispcnt disp k data => wr8Word disp (0x00#11 ++ k) data
  | .wr8Greenswap disp k data => wr8Word disp (0x01#11 ++ k) data
  | .wr8Dispstat disp k data => wr8Word disp (0x02#11 ++ k) data
  | .wr8Vcount disp k data => wr8Word disp (0x03#11 ++ k) data
  | .wr8Bg0cnt disp k data => wr8Word disp (0x04#11 ++ k) data
  | .wr8Bg1cnt disp k data => wr8Word disp (0x05#11 ++ k) data
  | .wr8Bg2cnt disp k data => wr8Word disp (0x06#11 ++ k) data
  | .wr8Bg3cnt disp k data => wr8Word disp (0x07#11 ++ k) data
  | .wr8Bg0hofs disp k data => wr8Word disp (0x08#11 ++ k) data
  | .wr8Bg0vofs disp k data => wr8Word disp (0x09#11 ++ k) data
  | .wr8Bg1hofs disp k data => wr8Word disp (0x0A#11 ++ k) data
  | .wr8Bg1vofs disp k data => wr8Word disp (0x0B#11 ++ k) data
  | .wr8Bg2hofs disp k data => wr8Word disp (0x0C#11 ++ k) data
  | .wr8Bg2vofs disp k data => wr8Word disp (0x0D#11 ++ k) data
  | .wr8Bg3hofs disp k data => wr8Word disp (0x0E#11 ++ k) data
  | .wr8Bg3vofs disp k data => wr8Word disp (0x0F#11 ++ k) data
  | .wr8Bg2pa disp k data => wr8Word disp (0x10#11 ++ k) data
  | .wr8Bg2pb disp k data => wr8Word disp (0x11#11 ++ k) data
  | .wr8Bg2pc disp k data => wr8Word disp (0x12#11 ++ k) data
  | .wr8Bg2pd disp k data => wr8Word disp (0x13#11 ++ k) data
  | .wr8Bg2x disp k data => wr8Word disp (0x0A#10 ++ k) data
  | .wr8Bg2y disp k data => wr8Word disp (0x0B#10 ++ k) data
  | .wr8Bg3pa disp k data => wr8Word disp (0x18#11 ++ k) data
  | .wr8Bg3pb disp k data => wr8Word disp (0x19#11 ++ k) data
  | .wr8Bg3pc disp k data => wr8Word disp (0x1A#11 ++ k) data
  | .wr8Bg3pd disp k data => wr8Word disp (0x1B#11 ++ k) data
  | .wr8Bg3x disp k data => wr8Word disp (0x0E#10 ++ k) data
  | .wr8Bg3y disp k data => wr8Word disp (0x0F#10 ++ k) data
  | .wr8Win0h disp k data => wr8Word disp (0x20#11 ++ k) data
  | .wr8Win1h disp k data => wr8Word disp (0x21#11 ++ k) data
  | .wr8Win0v disp k data => wr8Word disp (0x22#11 ++ k) data
  | .wr8Win1v disp k data => wr8Word disp (0x23#11 ++ k) data
  | .wr8Winin disp k data => wr8Word disp (0x24#11 ++ k) data
  | .wr8Winout disp k data => wr8Word disp (0x25#11 ++ k) data
  | .wr8Mosaic disp k data => wr8Word disp (0x26#11 ++ k) data
  | .wr8Unused04e disp k data => wr8Word disp (0x27#11 ++ k) data
  | .wr8Bldcnt disp k data => wr8Word disp (0x28#11 ++ k) data
  | .wr8Bldalpha disp k data => wr8Word disp (0x29#11 ++ k) data
  | .wr8Bldy disp k data => wr8Word disp (0x2A#11 ++ k) data
  | .wr8Unused056 disp k data => wr8Word disp (0x2B#11 ++ k) data
  | .wr8Unused058 disp k data => wr8Word disp (0x0B#9 ++ k) data
  | .rd8OffOutOfRange disp off => rd8Word disp off
  | .wr8OffOutOfRange disp off data => wr8Word disp off data
  | .tick n => 0b010#3 ++ n
  | .ack disp => 0b011#3 ++ (0#16 ++ (disp ++ 0#12))
  | .memwr8Pal disp addr data => memwr8Word 0b00 disp addr data
  | .memwr8Vram disp addr data => memwr8Word 0b01 disp addr data
  | .memwr8Oam disp addr data => memwr8Word 0b10 disp addr data
  | .memwr8ReservedSpace payload => 0b100#3 ++ (0b11#2 ++ payload)
  | .rdpix disp y x => 0b101#3 ++ (0#12 ++ (disp ++ (y ++ x)))
  | .reservedKind6 payload => 0b110#3 ++ payload
  | .reservedKind7 payload => 0b111#3 ++ payload

/-- The port word whose bits are `w`, of which the opcode table gives the low `nbits`; the bits above are zero. -/
def tableWord (nbits w : Nat) : PortWord := BitVec.ofNat 32 (w % 2 ^ nbits)

/-- What the decoder reads from a word of the opcode table (a port word is one 32-bit word, so the table's bit
numbering is the port word's own). -/
def decodeTableWord (nbits w : Nat) : Option Instr :=
  match decode (tableWord nbits w) with
  | .ok i => some i
  | .error _ => none

end Sys2Proof
end

