-- ==== Sys2Proof/Machine/State.lean ====
section
/-! DEFINITION. The state of the block as plain data (10_state.md), the reasons a step can stop, and the state after reset. -/

namespace Sys2Proof.Machine

/-- The phases of a line (41_scanline_timing_fsm.md R400). -/
inductive Phase where
  /-- `Drawing`: the drawing part of a visible line. -/
  | drawing
  /-- `HBlank`: the blanking part of a visible line. -/
  | hblank
  /-- `VBlank`: the first part of a blanking line. -/
  | vblank
  /-- `VBlankHBlank`: the blanking part of a blanking line. -/
  | vblankHblank
deriving DecidableEq, Repr

/-- The notifications the block sends (10_state.md R80). -/
inductive Event where
  /-- `IRQ_VBLANK`. -/
  | irqVblank
  /-- `IRQ_HBLANK`. -/
  | irqHblank
  /-- `IRQ_VCOUNT`. -/
  | irqVcount
  /-- `DMA_HBLANK`. -/
  | dmaHblank
  /-- `DMA_VBLANK`. -/
  | dmaVblank
deriving DecidableEq, Repr

/-- The refusal reasons, the complete list of 60_exceptions.md R756. -/
inductive RefuseReason where
  /-- `BadPortWord`: the word is none of the block's transactions (R210). -/
  | badPortWord
  /-- `InvalidBgMode`: a render instant in background mode 6 or 7 (R412). -/
  | invalidBgMode
  /-- `GreenSwapUnmodelled`: a non-zero byte written to offset 0x002 or 0x003 (R305). -/
  | greenSwapUnmodelled
  /-- `DualUnmodelled`: a DUAL behaviour no source defines (R757). -/
  | dualUnmodelled
deriving DecidableEq, Repr

/-- What a read transaction returns (30_encoding.md R201). -/
inductive ReadOut where
  /-- The byte an `RD8` returns. -/
  | byte (v : Byte)
  /-- The colour an `RDPIX` returns. -/
  | pixel (c : Color)
deriving DecidableEq, Repr

/-- The names of the stored registers (10_state.md R52-R66). -/
inductive Reg where
  /-- `DISPCNT` (R52). -/
  | dispcnt
  /-- `DISPSTAT` (R53, the stored part). -/
  | dispstat
  /-- `BG0CNT` (R55). -/
  | bg0cnt
  /-- `BG1CNT` (R55). -/
  | bg1cnt
  /-- `BG2CNT` (R55). -/
  | bg2cnt
  /-- `BG3CNT` (R55). -/
  | bg3cnt
  /-- `BG0HOFS` (R56). -/
  | bg0hofs
  /-- `BG0VOFS` (R56). -/
  | bg0vofs
  /-- `BG1HOFS` (R56). -/
  | bg1hofs
  /-- `BG1VOFS` (R56). -/
  | bg1vofs
  /-- `BG2HOFS` (R56). -/
  | bg2hofs
  /-- `BG2VOFS` (R56). -/
  | bg2vofs
  /-- `BG3HOFS` (R56). -/
  | bg3hofs
  /-- `BG3VOFS` (R56). -/
  | bg3vofs
  /-- `BG2PA` (R57). -/
  | bg2pa
  /-- `BG2PB` (R57). -/
  | bg2pb
  /-- `BG2PC` (R57). -/
  | bg2pc
  /-- `BG2PD` (R57). -/
  | bg2pd
  /-- `BG2X` (R58). -/
  | bg2x
  /-- `BG2Y` (R58). -/
  | bg2y
  /-- `BG3PA` (R57). -/
  | bg3pa
  /-- `BG3PB` (R57). -/
  | bg3pb
  /-- `BG3PC` (R57). -/
  | bg3pc
  /-- `BG3PD` (R57). -/
  | bg3pd
  /-- `BG3X` (R58). -/
  | bg3x
  /-- `BG3Y` (R58). -/
  | bg3y
  /-- `WIN0H` (R59). -/
  | win0h
  /-- `WIN1H` (R59). -/
  | win1h
  /-- `WIN0V` (R60). -/
  | win0v
  /-- `WIN1V` (R60). -/
  | win1v
  /-- `WININ` (R61). -/
  | winin
  /-- `WINOUT` (R62). -/
  | winout
  /-- `MOSAIC` (R63). -/
  | mosaic
  /-- `BLDCNT` (R64). -/
  | bldcnt
  /-- `BLDALPHA` (R65). -/
  | bldalpha
  /-- `BLDY` (R66). -/
  | bldy
deriving DecidableEq, Repr

/-- The stored control registers of one display instance (10_state.md R52-R66), each the value after its write mask. -/
structure Regs where
  /-- `DISPCNT`, offset 0x000 (R52). -/
  dispcnt : Half
  /-- `DISPSTAT`, offset 0x004 (R53, the stored part). -/
  dispstat : Half
  /-- `BG0CNT`, offset 0x008 (R55). -/
  bg0cnt : Half
  /-- `BG1CNT`, offset 0x00A (R55). -/
  bg1cnt : Half
  /-- `BG2CNT`, offset 0x00C (R55). -/
  bg2cnt : Half
  /-- `BG3CNT`, offset 0x00E (R55). -/
  bg3cnt : Half
  /-- `BG0HOFS`, offset 0x010 (R56). -/
  bg0hofs : Half
  /-- `BG0VOFS`, offset 0x012 (R56). -/
  bg0vofs : Half
  /-- `BG1HOFS`, offset 0x014 (R56). -/
  bg1hofs : Half
  /-- `BG1VOFS`, offset 0x016 (R56). -/
  bg1vofs : Half
  /-- `BG2HOFS`, offset 0x018 (R56). -/
  bg2hofs : Half
  /-- `BG2VOFS`, offset 0x01A (R56). -/
  bg2vofs : Half
  /-- `BG3HOFS`, offset 0x01C (R56). -/
  bg3hofs : Half
  /-- `BG3VOFS`, offset 0x01E (R56). -/
  bg3vofs : Half
  /-- `BG2PA`, offset 0x020 (R57). -/
  bg2pa : Half
  /-- `BG2PB`, offset 0x022 (R57). -/
  bg2pb : Half
  /-- `BG2PC`, offset 0x024 (R57). -/
  bg2pc : Half
  /-- `BG2PD`, offset 0x026 (R57). -/
  bg2pd : Half
  /-- `BG2X`, offset 0x028 (R58). -/
  bg2x : BitVec 32
  /-- `BG2Y`, offset 0x02C (R58). -/
  bg2y : BitVec 32
  /-- `BG3PA`, offset 0x030 (R57). -/
  bg3pa : Half
  /-- `BG3PB`, offset 0x032 (R57). -/
  bg3pb : Half
  /-- `BG3PC`, offset 0x034 (R57). -/
  bg3pc : Half
  /-- `BG3PD`, offset 0x036 (R57). -/
  bg3pd : Half
  /-- `BG3X`, offset 0x038 (R58). -/
  bg3x : BitVec 32
  /-- `BG3Y`, offset 0x03C (R58). -/
  bg3y : BitVec 32
  /-- `WIN0H`, offset 0x040 (R59). -/
  win0h : Half
  /-- `WIN1H`, offset 0x042 (R59). -/
  win1h : Half
  /-- `WIN0V`, offset 0x044 (R60). -/
  win0v : Half
  /-- `WIN1V`, offset 0x046 (R60). -/
  win1v : Half
  /-- `WININ`, offset 0x048 (R61). -/
  winin : Half
  /-- `WINOUT`, offset 0x04A (R62). -/
  winout : Half
  /-- `MOSAIC`, offset 0x04C (R63). -/
  mosaic : Half
  /-- `BLDCNT`, offset 0x050 (R64). -/
  bldcnt : Half
  /-- `BLDALPHA`, offset 0x052 (R65). -/
  bldalpha : Half
  /-- `BLDY`, offset 0x054 (R66). -/
  bldy : Half
deriving DecidableEq, Repr

/-- A sprite pixel of `OBJBUF` (10_state.md R69); an absent pixel (`present = false`) is `none` in the buffer. -/
structure ObjPixel where
  /-- `palidx`: the palette index, 0..511. -/
  palidx : BitVec 9
  /-- `color`: the colour at pre-render time. Nothing reads it (R69, 45_sprite_renderer.md R595). -/
  color : Color
  /-- `prio`: the sprite's priority. -/
  prio : BitVec 2
  /-- `translucent`: the sprite's mode is translucent. -/
  translucent : Bool
deriving DecidableEq, Repr

/-- An external memory: its written bytes, by rising address. An address not listed has not been written since
reset, and the byte there is the draw of 10_state.md R81 (`Display.readByte`). Log entry 6. -/
abbrev Memory := List Host.Cell

/-- An output buffer: its written rows, by rising line. A row not listed has not been written since reset, and its
pixels are the draws of 10_state.md R71 (`Display.pixel`). Log entry 7. -/
abbrev Image := List (Nat × List Color)

/-- One display instance of the block: its registers, renderer state, output image and external memories. -/
structure Display where
  /-- Which display instance this is (the `DISP` field that addresses it). Log entry 9. -/
  index : BitVec 1
  /-- The stored registers. -/
  regs : Regs
  /-- `BG2X_INT` (10_state.md R68), an s28. -/
  bg2xInt : BitVec 28
  /-- `BG2Y_INT` (R68). -/
  bg2yInt : BitVec 28
  /-- `BG3X_INT` (R68). -/
  bg3xInt : BitVec 28
  /-- `BG3Y_INT` (R68). -/
  bg3yInt : BitVec 28
  /-- `OBJBUF` (R69), by column. -/
  objBuf : List (Option ObjPixel)
  /-- `OBJWIN` (R69), by column. -/
  objWin : List Bool
  /-- `OBJBUF_LINE` (R69). -/
  objBufLine : Option Nat
  /-- `BUF[0]` (R71). -/
  buf0 : Image
  /-- `BUF[1]` (R71). -/
  buf1 : Image
  /-- `BACK` (R71): the index of the back buffer. -/
  back : Fin 2
  /-- `FRAME_READY` (R72). -/
  frameReady : Bool
  /-- `FRAME_COUNT` (R73). -/
  frameCount : Nat
  /-- `PAL` (R81). -/
  pal : Memory
  /-- `VRAM` (R81). -/
  vram : Memory
  /-- `OAM` (R81). -/
  oam : Memory
deriving DecidableEq, Repr

/-- The whole machine. -/
structure State where
  /-- The configuration (00_scope.md R6). No step writes it. Log entry 8. -/
  config : Config
  /-- `PHASE` (10_state.md R51). -/
  phase : Phase
  /-- `VCOUNT` (R51). -/
  vcount : Nat
  /-- `LINE_TICKS` (R51). -/
  lineTicks : Nat
  /-- Display instance 0. -/
  disp0 : Display
  /-- Display instance 1: part of the machine only when `NUM_DISPLAYS = 2`. Log entry 9. -/
  disp1 : Display
  /-- `REFUSED` (R75). -/
  refused : Option RefuseReason
  /-- `OUT_EVENTS` (R80), oldest first. -/
  outEvents : List Event
  /-- The results of the reads so far (30_encoding.md R201), oldest first. The model's own field, log entry 4. -/
  outReads : List ReadOut
  /-- How many draws were made. The model's own field, log entry 5. -/
  draws : Nat
  /-- The port words still to be applied, next one first (20_memory.md R158). The model's own field, log entry 1. -/
  pending : List PortWord
deriving DecidableEq, Repr

/-- Why a step stops with a fault: never. The block has no fault (60_exceptions.md R750, spec/93: 'fault: never used'),
so the type has no constructor. Log entry 3. -/
inductive Fault where
deriving DecidableEq, Repr

/-- Why a step has no meaning. No meaning of this model raises one: a refusal of the spec is a mark in the state
(R755, log entry 3), and every instruction has its meaning. -/
inductive Refusal where
  /-- Raised by an arm of `exec` that has no meaning yet; no arm is left so. Safe: the machine stops. -/
  | notModelled (mnemonic : String)
deriving DecidableEq, Repr

/-- Every stored register at reset (10_state.md R85): 0. -/
def Regs.reset : Regs where
  dispcnt := 0
  dispstat := 0
  bg0cnt := 0
  bg1cnt := 0
  bg2cnt := 0
  bg3cnt := 0
  bg0hofs := 0
  bg0vofs := 0
  bg1hofs := 0
  bg1vofs := 0
  bg2hofs := 0
  bg2vofs := 0
  bg3hofs := 0
  bg3vofs := 0
  bg2pa := 0
  bg2pb := 0
  bg2pc := 0
  bg2pd := 0
  bg2x := 0
  bg2y := 0
  bg3pa := 0
  bg3pb := 0
  bg3pc := 0
  bg3pd := 0
  bg3x := 0
  bg3y := 0
  win0h := 0
  win1h := 0
  win0v := 0
  win1v := 0
  winin := 0
  winout := 0
  mosaic := 0
  bldcnt := 0
  bldalpha := 0
  bldy := 0

/-- A display instance at reset (10_state.md R85), for the given configuration and index. -/
def Display.reset (c : Config) (index : BitVec 1) : Display where
  index := index
  regs := Regs.reset
  bg2xInt := 0
  bg2yInt := 0
  bg3xInt := 0
  bg3yInt := 0
  objBuf := List.replicate c.screenW none
  objWin := List.replicate c.screenW false
  objBufLine := none
  buf0 := []
  buf1 := []
  back := 0
  frameReady := false
  frameCount := 0
  pal := []
  vram := []
  oam := []

/-- A machine of the given configuration at reset (10_state.md R85, 70_reset_and_hazards.md R800). -/
def State.resetOf (c : Config) : State where
  config := c
  phase := .drawing
  vcount := 0
  lineTicks := 0
  disp0 := Display.reset c 0
  disp1 := Display.reset c 1
  refused := none
  outEvents := []
  outReads := []
  draws := 0
  pending := []

/-- The machine right after reset: the admitted configuration, SINGLE (00_scope.md R3), at the values of R85. -/
def State.reset : State := State.resetOf Config.single

end Sys2Proof.Machine
end

