-- ==== Sys2Proof/Machine/Ops.lean ====
section
/-! DEFINITION. The named operations over the state: sparse data, memories, registers, output image, notifications,
draws, refusals, and the frame every transaction runs in.

The block raises no exception, takes no trap and returns from none (60_exceptions.md R750, R754). What the spec has in
their place is the refusal, `State.refuse`, the one operation that sets the mark (R755), and the notification,
`State.emit` (R751, R752). -/

namespace Sys2Proof.Machine

/-! ### Sparse data: a list of key and value pairs by strictly rising key -/

/-- What is stored at a key, if anything. -/
def Sparse.find {α : Type} : List (Nat × α) → Nat → Option α
  | [], _ => none
  | (k, v) :: rest, a => if a = k then some v else Sparse.find rest a

/-- Store a value at a key, keeping the keys strictly rising. -/
def Sparse.insert {α : Type} : List (Nat × α) → Nat → α → List (Nat × α)
  | [], a, v => [(a, v)]
  | (k, w) :: rest, a, v =>
    if a < k then (a, v) :: (k, w) :: rest
    else if a = k then (a, v) :: rest
    else (k, w) :: Sparse.insert rest a v

/-- The keys are strictly rising and below a bound. -/
def Sparse.rising {α : Type} (bound : Nat) : List (Nat × α) → Bool
  | [] => true
  | [(k, _)] => decide (k < bound)
  | (k, _) :: (k', v') :: rest => decide (k < k') && Sparse.rising bound ((k', v') :: rest)

/-- The canonical form of a memory of the given size: addresses strictly rising, each below the size. An unlisted
address holds no written byte, and every listed one does, so no entry says what an unlisted address says. -/
def Memory.wf (size : Nat) (m : Memory) : Bool := Sparse.rising size m

/-- The canonical form of an output buffer of the given height: rows strictly rising, each below the height. -/
def Image.wf (height : Nat) (b : Image) : Bool := Sparse.rising height b

/-! ### Bytes of a register value (30_encoding.md R213, 20_memory.md R153) -/

/-- Byte `k` of a register value, bits [8k+7:8k] (R213, R301). -/
def byteOf (v : BitVec 32) (k : Nat) : Byte := (v >>> (8 * k)).setWidth 8

/-- The register value with byte `k` replaced, then masked (40_register_port.md R300). -/
def mergeByte (old : BitVec 32) (k : Nat) (data : Byte) (wmask : BitVec 32) : BitVec 32 :=
  ((old &&& ~~~(0xFF#32 <<< (8 * k))) ||| (data.setWidth 32 <<< (8 * k))) &&& wmask

/-- The write mask of a register (10_state.md R52-R66). -/
def Reg.wmask : Reg → BitVec 32
  | .dispcnt => 0x0000FFF7
  | .dispstat => 0x0000FF38
  | .bg0cnt | .bg1cnt => 0x0000DFFF
  | .bg2cnt | .bg3cnt | .bg2pa | .bg2pb | .bg2pc | .bg2pd => 0x0000FFFF
  | .bg3pa | .bg3pb | .bg3pc | .bg3pd | .win0h | .win1h => 0x0000FFFF
  | .win0v | .win1v | .mosaic => 0x0000FFFF
  | .bg0hofs | .bg0vofs | .bg1hofs | .bg1vofs | .bg2hofs | .bg2vofs => 0x000001FF
  | .bg3hofs | .bg3vofs => 0x000001FF
  | .bg2x | .bg2y | .bg3x | .bg3y => 0x0FFFFFFF
  | .winin | .winout => 0x00003F3F
  | .bldcnt => 0x00003FFF
  | .bldalpha => 0x00001F1F
  | .bldy => 0x0000001F

/-- The stored value of a register, zero-extended to 32 bits. -/
def Regs.get (r : Regs) : Reg → BitVec 32
  | .dispcnt => r.dispcnt.setWidth 32
  | .dispstat => r.dispstat.setWidth 32
  | .bg0cnt => r.bg0cnt.setWidth 32
  | .bg1cnt => r.bg1cnt.setWidth 32
  | .bg2cnt => r.bg2cnt.setWidth 32
  | .bg3cnt => r.bg3cnt.setWidth 32
  | .bg0hofs => r.bg0hofs.setWidth 32
  | .bg0vofs => r.bg0vofs.setWidth 32
  | .bg1hofs => r.bg1hofs.setWidth 32
  | .bg1vofs => r.bg1vofs.setWidth 32
  | .bg2hofs => r.bg2hofs.setWidth 32
  | .bg2vofs => r.bg2vofs.setWidth 32
  | .bg3hofs => r.bg3hofs.setWidth 32
  | .bg3vofs => r.bg3vofs.setWidth 32
  | .bg2pa => r.bg2pa.setWidth 32
  | .bg2pb => r.bg2pb.setWidth 32
  | .bg2pc => r.bg2pc.setWidth 32
  | .bg2pd => r.bg2pd.setWidth 32
  | .bg2x => r.bg2x
  | .bg2y => r.bg2y
  | .bg3pa => r.bg3pa.setWidth 32
  | .bg3pb => r.bg3pb.setWidth 32
  | .bg3pc => r.bg3pc.setWidth 32
  | .bg3pd => r.bg3pd.setWidth 32
  | .bg3x => r.bg3x
  | .bg3y => r.bg3y
  | .win0h => r.win0h.setWidth 32
  | .win1h => r.win1h.setWidth 32
  | .win0v => r.win0v.setWidth 32
  | .win1v => r.win1v.setWidth 32
  | .winin => r.winin.setWidth 32
  | .winout => r.winout.setWidth 32
  | .mosaic => r.mosaic.setWidth 32
  | .bldcnt => r.bldcnt.setWidth 32
  | .bldalpha => r.bldalpha.setWidth 32
  | .bldy => r.bldy.setWidth 32

/-- The registers with one stored value replaced (a 16-bit register takes the low half). -/
def Regs.set (r : Regs) (reg : Reg) (v : BitVec 32) : Regs :=
  match reg with
  | .dispcnt => { r with dispcnt := v.setWidth 16 }
  | .dispstat => { r with dispstat := v.setWidth 16 }
  | .bg0cnt => { r with bg0cnt := v.setWidth 16 }
  | .bg1cnt => { r with bg1cnt := v.setWidth 16 }
  | .bg2cnt => { r with bg2cnt := v.setWidth 16 }
  | .bg3cnt => { r with bg3cnt := v.setWidth 16 }
  | .bg0hofs => { r with bg0hofs := v.setWidth 16 }
  | .bg0vofs => { r with bg0vofs := v.setWidth 16 }
  | .bg1hofs => { r with bg1hofs := v.setWidth 16 }
  | .bg1vofs => { r with bg1vofs := v.setWidth 16 }
  | .bg2hofs => { r with bg2hofs := v.setWidth 16 }
  | .bg2vofs => { r with bg2vofs := v.setWidth 16 }
  | .bg3hofs => { r with bg3hofs := v.setWidth 16 }
  | .bg3vofs => { r with bg3vofs := v.setWidth 16 }
  | .bg2pa => { r with bg2pa := v.setWidth 16 }
  | .bg2pb => { r with bg2pb := v.setWidth 16 }
  | .bg2pc => { r with bg2pc := v.setWidth 16 }
  | .bg2pd => { r with bg2pd := v.setWidth 16 }
  | .bg2x => { r with bg2x := v }
  | .bg2y => { r with bg2y := v }
  | .bg3pa => { r with bg3pa := v.setWidth 16 }
  | .bg3pb => { r with bg3pb := v.setWidth 16 }
  | .bg3pc => { r with bg3pc := v.setWidth 16 }
  | .bg3pd => { r with bg3pd := v.setWidth 16 }
  | .bg3x => { r with bg3x := v }
  | .bg3y => { r with bg3y := v }
  | .win0h => { r with win0h := v.setWidth 16 }
  | .win1h => { r with win1h := v.setWidth 16 }
  | .win0v => { r with win0v := v.setWidth 16 }
  | .win1v => { r with win1v := v.setWidth 16 }
  | .winin => { r with winin := v.setWidth 16 }
  | .winout => { r with winout := v.setWidth 16 }
  | .mosaic => { r with mosaic := v.setWidth 16 }
  | .bldcnt => { r with bldcnt := v.setWidth 16 }
  | .bldalpha => { r with bldalpha := v.setWidth 16 }
  | .bldy => { r with bldy := v.setWidth 16 }

/-- The generic byte write of a register (40_register_port.md R300). -/
def Display.storeByte (d : Display) (reg : Reg) (k : Nat) (data : Byte) : Display :=
  { d with regs := d.regs.set reg (mergeByte (d.regs.get reg) k data reg.wmask) }

/-! ### External memories (20_memory.md R151, R153; 00_scope.md R11) -/

/-- The memory of a space. -/
def Display.memory (d : Display) : Space → Memory
  | .pal => d.pal
  | .vram => d.vram
  | .oam => d.oam

/-- The byte at an address: the byte last written there, or the draw it holds since reset (10_state.md R81). -/
def Display.readByte (d : Display) (sp : Space) (a : Nat) : Byte :=
  (Sparse.find (d.memory sp) a).getD (Config.resetByte d.index sp a)

/-- A 16-bit little-endian value, `MemRead(space, a, 2)` (R11, R153). -/
def Display.readHalf (d : Display) (sp : Space) (a : Nat) : Half :=
  d.readByte sp (a + 1) ++ d.readByte sp a

/-- Store a byte into an external memory (40_register_port.md R340). -/
def Display.writeByte (d : Display) (sp : Space) (a : Nat) (v : Byte) : Display :=
  match sp with
  | .pal => { d with pal := Sparse.insert d.pal a v }
  | .vram => { d with vram := Sparse.insert d.vram a v }
  | .oam => { d with oam := Sparse.insert d.oam a v }

/-- `PAL15(i)`: palette entry `i` as a colour, bit 15 ignored (R11). -/
def Display.pal15 (d : Display) (i : Nat) : Color := (d.readHalf .pal (2 * i)).setWidth 15

/-! ### The output image (10_state.md R71, 48_framebuffer_mux.md R725, R726) -/

/-- `BUF[i]`. -/
def Display.buffer (d : Display) (i : Fin 2) : Image :=
  if i = 0 then d.buf0 else d.buf1

/-- `BUF[i][y][x]`: the pixel last written, or the draw it holds since reset. -/
def Display.pixel (d : Display) (i : Fin 2) (y x : Nat) : Color :=
  match Sparse.find (d.buffer i) y with
  | some row => row.getD x (Config.resetPixel d.index (i = 1) y x)
  | none => Config.resetPixel d.index (i = 1) y x

/-- `BUF[1 - BACK][y][x]`: a pixel of the front buffer (40_register_port.md R331). -/
def Display.frontPixel (d : Display) (y x : Nat) : Color := d.pixel (1 - d.back) y x

/-- `BUF[BACK][l] <- row` (41_scanline_timing_fsm.md R412). -/
def Display.writeRow (d : Display) (l : Nat) (row : List Color) : Display :=
  if d.back = 0 then { d with buf0 := Sparse.insert d.buf0 l row }
  else { d with buf1 := Sparse.insert d.buf1 l row }

/-- `Swap()` (R725): no pixel is copied or cleared. -/
def Display.swap (d : Display) : Display := { d with back := 1 - d.back }

/-! ### Display instances -/

/-- The display instance a `DISP` field addresses. -/
def State.display (s : State) (disp : BitVec 1) : Display :=
  if disp = 0 then s.disp0 else s.disp1

/-- Change one display instance. -/
def State.modifyDisplay (s : State) (disp : BitVec 1) (f : Display → Display) : State :=
  if disp = 0 then { s with disp0 := f s.disp0 } else { s with disp1 := f s.disp1 }

/-- Change every display instance the machine has (41_scanline_timing_fsm.md R418). -/
def State.mapDisplays (s : State) (f : Display → Display) : State :=
  match s.config.variant with
  | .single => { s with disp0 := f s.disp0 }
  | .dual => { s with disp0 := f s.disp0, disp1 := f s.disp1 }

/-- `DISP < NUM_DISPLAYS` (30_encoding.md R210). -/
def State.dispExists (s : State) (disp : BitVec 1) : Bool := decide (disp.toNat < s.config.numDisplays)

/-! ### Outputs: notifications, read results, draws -/

/-- Append a notification (10_state.md R80). -/
def State.emit (s : State) (e : Event) : State := { s with outEvents := s.outEvents ++ [e] }

/-- The display instances that raise interrupts: instance 0, and in DUAL instance 1 too if `DUAL_IRQ_PER_DISPLAY`
(41_scanline_timing_fsm.md R418). Log entry 10. -/
def State.irqDisplays (s : State) : List Display :=
  if s.config.variant = .dual ∧ s.config.dualIrqPerDisplay then [s.disp0, s.disp1] else [s.disp0]

/-- Append an interrupt notification once for each interrupting display instance whose registers enable it
(60_exceptions.md R751: the enable is sampled at the edge). -/
def State.emitIrq (s : State) (e : Event) (enabled : Display → Bool) : State :=
  { s with outEvents := s.outEvents ++ (s.irqDisplays.filter enabled).map fun _ => e }

/-- Return a read result (30_encoding.md R201). Log entry 4. -/
def State.output (s : State) (r : ReadOut) : State := { s with outReads := s.outReads ++ [r] }

/-- Return a draw of 8 bits (40_register_port.md R302). Log entry 5. -/
def State.outputDrawByte (s : State) : State :=
  { s.output (.byte (Config.drawByte s.draws)) with draws := s.draws + 1 }

/-- Return a draw of 15 bits (60_exceptions.md R755). Log entry 5. -/
def State.outputDrawPixel (s : State) : State :=
  { s.output (.pixel (Config.drawPixel s.draws)) with draws := s.draws + 1 }

/-! ### Refusals and the frame of a transaction (60_exceptions.md R755-R757) -/

/-- `refuse(reason)`: set the mark (R755). The caller runs no later step of the transaction. Log entry 3. -/
def State.refuse (s : State) (reason : RefuseReason) : State := { s with refused := some reason }

/-- Run a transaction that is no read: under the mark it has no effect (R755), outside the limits of R210 it is
refused, else it runs. -/
def State.transact (s : State) (legal : Bool) (body : State → State) : State :=
  if s.refused.isSome then s
  else if legal then body s
  else s.refuse .badPortWord

/-- Run a read: as `State.transact`, but under the mark it returns a draw of its width (R755). A word outside the
limits of R210 is no read, so under the mark it returns nothing (log entry 12). -/
def State.transactRead (s : State) (legal : Bool) (drawn body : State → State) : State :=
  if s.refused.isSome then (if legal then drawn s else s)
  else if legal then body s
  else s.refuse .badPortWord

/-- A register access of the transaction: refused in DUAL (R757). -/
def State.registerAccess (s : State) (body : State → State) : State :=
  match s.config.variant with
  | .single => body s
  | .dual => s.refuse .dualUnmodelled

/-- The shared form of every `WR8`: change the display instance's registers by `f`. -/
def State.writeReg (s : State) (disp : BitVec 1) (f : Display → Display) : State :=
  s.transact (s.dispExists disp) fun s => s.registerAccess fun s => s.modifyDisplay disp f

/-- The shared form of every `RD8` of a readable register: return byte `k` of `val`, the register's read value
(40_register_port.md R301). -/
def State.readReg (s : State) (disp : BitVec 1) (k : Nat) (val : Display → BitVec 32) : State :=
  s.transactRead (s.dispExists disp) State.outputDrawByte fun s =>
    s.registerAccess fun s => s.output (.byte (byteOf (val (s.display disp)) k))

/-- The shared form of every `RD8` whose result is a draw: a write-only register (R302), an unused offset (R303),
the green-swap slot (R307). -/
def State.readDraw (s : State) (disp : BitVec 1) : State :=
  s.transactRead (s.dispExists disp) State.outputDrawByte fun s => s.registerAccess State.outputDrawByte

end Sys2Proof.Machine
end

