-- ==== Sys2Proof/Machine/Operands.lean ====
section
/-! DEFINITION. The fields of the registers and of the sprite attributes, and the names of the layers. -/

namespace Sys2Proof.Machine

/-- The field of `len` bits of `v` whose lowest bit is `lo`, as a number (00_scope.md R8). -/
def field {w : Nat} (v : BitVec w) (lo len : Nat) : Nat := (v.extractLsb' lo len).toNat

/-- A background layer (00_scope.md R7). -/
inductive Bg where
  /-- `BG0`. -/
  | bg0
  /-- `BG1`. -/
  | bg1
  /-- `BG2`, affine-capable. -/
  | bg2
  /-- `BG3`, affine-capable. -/
  | bg3
deriving DecidableEq, Repr

/-- The layer's number, 0..3. -/
def Bg.num : Bg → Nat
  | .bg0 => 0
  | .bg1 => 1
  | .bg2 => 2
  | .bg3 => 3

/-- The four background layers (`NUM_BG`, R6). -/
def Bg.all : List Bg := [.bg0, .bg1, .bg2, .bg3]

/-- An affine-capable layer, `BG2` or `BG3` (R7). -/
inductive AffineBg where
  /-- `BG2`. -/
  | bg2
  /-- `BG3`. -/
  | bg3
deriving DecidableEq, Repr

/-! ### Display control (10_state.md R52) -/

/-- `DISPCNT.BG_MODE`. -/
def Regs.bgMode (r : Regs) : Nat := field r.dispcnt 0 3
/-- `DISPCNT.FRAME_SELECT`. -/
def Regs.frameSelect (r : Regs) : Bool := r.dispcnt.getLsbD 4
/-- `DISPCNT.OBJ_1D`. -/
def Regs.obj1d (r : Regs) : Bool := r.dispcnt.getLsbD 6
/-- `DISPCNT.FORCED_BLANK`. -/
def Regs.forcedBlank (r : Regs) : Bool := r.dispcnt.getLsbD 7
/-- `DISPCNT.BGn_EN`. -/
def Regs.bgEn (r : Regs) (n : Bg) : Bool := r.dispcnt.getLsbD (8 + n.num)
/-- `DISPCNT.OBJ_EN`. -/
def Regs.objEn (r : Regs) : Bool := r.dispcnt.getLsbD 12
/-- `DISPCNT.WIN0_EN`. -/
def Regs.win0En (r : Regs) : Bool := r.dispcnt.getLsbD 13
/-- `DISPCNT.WIN1_EN`. -/
def Regs.win1En (r : Regs) : Bool := r.dispcnt.getLsbD 14
/-- `DISPCNT.OBJWIN_EN`. -/
def Regs.objwinEn (r : Regs) : Bool := r.dispcnt.getLsbD 15

/-! ### Display status, the stored part (R53) -/

/-- `DISPSTAT.VBLANK_IRQ_EN`. -/
def Regs.vblankIrqEn (r : Regs) : Bool := r.dispstat.getLsbD 3
/-- `DISPSTAT.HBLANK_IRQ_EN`. -/
def Regs.hblankIrqEn (r : Regs) : Bool := r.dispstat.getLsbD 4
/-- `DISPSTAT.VCOUNT_IRQ_EN`. -/
def Regs.vcountIrqEn (r : Regs) : Bool := r.dispstat.getLsbD 5
/-- `DISPSTAT.LYC`. -/
def Regs.lyc (r : Regs) : Nat := field r.dispstat 8 8

/-! ### Layer registers (R55-R58) -/

/-- `BGnCNT`. -/
def Regs.bgcnt (r : Regs) : Bg → Half
  | .bg0 => r.bg0cnt
  | .bg1 => r.bg1cnt
  | .bg2 => r.bg2cnt
  | .bg3 => r.bg3cnt

/-- `BGnHOFS`. -/
def Regs.hofs (r : Regs) : Bg → Half
  | .bg0 => r.bg0hofs
  | .bg1 => r.bg1hofs
  | .bg2 => r.bg2hofs
  | .bg3 => r.bg3hofs

/-- `BGnVOFS`. -/
def Regs.vofs (r : Regs) : Bg → Half
  | .bg0 => r.bg0vofs
  | .bg1 => r.bg1vofs
  | .bg2 => r.bg2vofs
  | .bg3 => r.bg3vofs

/-- `BGnCNT.PRIORITY`. -/
def bgPriority (cnt : Half) : Nat := field cnt 0 2
/-- `BGnCNT.CHAR_BASE`, as a byte offset into VRAM. -/
def bgCharBase (cnt : Half) : Nat := field cnt 2 2 * 0x4000
/-- `BGnCNT.MOSAIC`. -/
def bgMosaic (cnt : Half) : Bool := cnt.getLsbD 6
/-- `BGnCNT.COLOR_8BPP`. -/
def bgColor8bpp (cnt : Half) : Bool := cnt.getLsbD 7
/-- `BGnCNT.SCREEN_BASE`, as a byte offset into VRAM. -/
def bgScreenBase (cnt : Half) : Nat := field cnt 8 5 * 0x800
/-- `BGnCNT.OVERFLOW_WRAP`. -/
def bgOverflowWrap (cnt : Half) : Bool := cnt.getLsbD 13
/-- `BGnCNT.SCREEN_SIZE`. -/
def bgScreenSize (cnt : Half) : Nat := field cnt 14 2

/-- `BGnPA` as a signed number with 8 fraction bits (R57). -/
def Regs.pa (r : Regs) : AffineBg → Int
  | .bg2 => r.bg2pa.toInt
  | .bg3 => r.bg3pa.toInt

/-- `BGnPB` (R57). -/
def Regs.pb (r : Regs) : AffineBg → Int
  | .bg2 => r.bg2pb.toInt
  | .bg3 => r.bg3pb.toInt

/-- `BGnPC` (R57). -/
def Regs.pc (r : Regs) : AffineBg → Int
  | .bg2 => r.bg2pc.toInt
  | .bg3 => r.bg3pc.toInt

/-- `BGnPD` (R57). -/
def Regs.pd (r : Regs) : AffineBg → Int
  | .bg2 => r.bg2pd.toInt
  | .bg3 => r.bg3pd.toInt

/-- `BGnCNT` of an affine-capable layer. -/
def Regs.affineCnt (r : Regs) : AffineBg → Half
  | .bg2 => r.bg2cnt
  | .bg3 => r.bg3cnt

/-- `BGnX_INT` as a signed number (R68). -/
def Display.xInt (d : Display) : AffineBg → Int
  | .bg2 => d.bg2xInt.toInt
  | .bg3 => d.bg3xInt.toInt

/-- `BGnY_INT` as a signed number (R68). -/
def Display.yInt (d : Display) : AffineBg → Int
  | .bg2 => d.bg2yInt.toInt
  | .bg3 => d.bg3yInt.toInt

/-! ### Mosaic block sizes (R63) -/

/-- `MOS_BG_H`. -/
def Regs.mosBgH (r : Regs) : Nat := field r.mosaic 0 4 + 1
/-- `MOS_BG_V`. -/
def Regs.mosBgV (r : Regs) : Nat := field r.mosaic 4 4 + 1
/-- `MOS_OBJ_H`. -/
def Regs.mosObjH (r : Regs) : Nat := field r.mosaic 8 4 + 1
/-- `MOS_OBJ_V`. -/
def Regs.mosObjV (r : Regs) : Nat := field r.mosaic 12 4 + 1

/-! ### Blend registers (R64-R66) -/

/-- `BLDCNT.EFFECT`. -/
def Regs.blendEffect (r : Regs) : Nat := field r.bldcnt 6 2

/-- `clamp16(v)` (00_scope.md R9, 47_priority_blend_compositor.md R679). -/
def clamp16 (v : Nat) : Nat := min v 16

/-- `clamp16(BLDALPHA.EVA)` (R65). -/
def Regs.eva (r : Regs) : Nat := clamp16 (field r.bldalpha 0 5)
/-- `clamp16(BLDALPHA.EVB)` (R65). -/
def Regs.evb (r : Regs) : Nat := clamp16 (field r.bldalpha 8 5)
/-- `clamp16(BLDY.EVY)` (R66). -/
def Regs.evy (r : Regs) : Nat := clamp16 (field r.bldy 0 5)

/-! ### Internal affine reference points (10_state.md R68) -/

/-- Reload one internal reference point from its register, `sext_28(REG.BGnX)` (40_register_port.md R316). For a
register that is no reference point nothing is reloaded. -/
def Display.reloadRef (d : Display) (reg : Reg) : Display :=
  match reg with
  | .bg2x => { d with bg2xInt := d.regs.bg2x.setWidth 28 }
  | .bg2y => { d with bg2yInt := d.regs.bg2y.setWidth 28 }
  | .bg3x => { d with bg3xInt := d.regs.bg3x.setWidth 28 }
  | .bg3y => { d with bg3yInt := d.regs.bg3y.setWidth 28 }
  | _ => d

/-- The byte write of a reference point register and its side effect (R316): store, then reload. -/
def Display.storeRefByte (d : Display) (reg : Reg) (k : Nat) (data : Byte) : Display :=
  (d.storeByte reg k data).reloadRef reg

/-- Reload all four internal reference points, at the entry into vblank (41_scanline_timing_fsm.md R407). -/
def Display.reloadAffine (d : Display) : Display :=
  { d with
    bg2xInt := d.regs.bg2x.setWidth 28
    bg2yInt := d.regs.bg2y.setWidth 28
    bg3xInt := d.regs.bg3x.setWidth 28
    bg3yInt := d.regs.bg3y.setWidth 28 }

/-- `AffineStep()` (41_scanline_timing_fsm.md R413): add `PB` and `PD`, wrapping at 28 bits. -/
def Display.affineStep (d : Display) : Display :=
  { d with
    bg2xInt := d.bg2xInt + d.regs.bg2pb.signExtend 28
    bg2yInt := d.bg2yInt + d.regs.bg2pd.signExtend 28
    bg3xInt := d.bg3xInt + d.regs.bg3pb.signExtend 28
    bg3yInt := d.bg3yInt + d.regs.bg3pd.signExtend 28 }

end Sys2Proof.Machine
end

