-- ==== Sys2Proof/Machine/Flags.lean ====
section
/-! DEFINITION. The live status flags (10_state.md R76, 41_scanline_timing_fsm.md R414) and the read values made from
them. None is stored: each is a function of the position and of `DISPSTAT.LYC`. -/

namespace Sys2Proof.Machine

/-- `VBLANK_FLAG` (R414). -/
def State.vblankFlag (s : State) : Bool :=
  (decide (s.config.screenH ≤ s.vcount) && decide (s.vcount + 2 ≤ s.config.totalLines)) ||
    (decide (s.vcount + 1 = s.config.totalLines) && s.config.vblankFlagOnLastLine)

/-- `HBLANK_FLAG` (R414). -/
def State.hblankFlag (s : State) : Bool := decide (s.config.hDrawTicks ≤ s.lineTicks)

/-- `VCOUNT_FLAG` of a display instance (R414). -/
def State.vcountFlag (s : State) (d : Display) : Bool := decide (s.vcount = d.regs.lyc)

/-- `READVAL(DISPSTAT)`, synthesised at the read (40_register_port.md R309). -/
def State.dispstatRead (s : State) (d : Display) : Half :=
  d.regs.dispstat.extractLsb' 8 8 ++ 0b00#2 ++ d.regs.dispstat.extractLsb' 3 3 ++
    BitVec.ofBool (s.vcountFlag d) ++ BitVec.ofBool s.hblankFlag ++ BitVec.ofBool s.vblankFlag

/-- `READVAL(VCOUNT) = zext_16(VCOUNT)` (R311): byte 1 reads 0 (10_state.md R54). -/
def State.vcountRead (s : State) : Half := (BitVec.ofNat 8 s.vcount).setWidth 16

end Sys2Proof.Machine
end

