-- ==== Sys2Proof/Machine/RegRead.lean ====
section
/-! DEFINITION. The meanings of the `RD8` transactions, one per register slot (40_register_port.md R301-R329). Each is the
shared read `State.readReg` of the register's read value, or the shared draw `State.readDraw`. -/

namespace Sys2Proof.Machine

/-- `RD8` of byte `k` of `DISPCNT` (R306, R301). -/
def execRd8Dispcnt (disp : BitVec 1) (k : BitVec 1) (s : State) : Host.Outcome State Fault Refusal :=
  .next (s.readReg disp k.toNat fun d => d.regs.get .dispcnt)

/-- `RD8` of byte `k` of `GREENSWAP`: the green-swap slot, a draw whatever the byte (R307). -/
def execRd8Greenswap (disp : BitVec 1) (_k : BitVec 1) (s : State) : Host.Outcome State Fault Refusal :=
  .next (s.readDraw disp)

/-- `RD8` of byte `k` of `DISPSTAT` (R309, R301). -/
def execRd8Dispstat (disp : BitVec 1) (k : BitVec 1) (s : State) : Host.Outcome State Fault Refusal :=
  .next (s.readReg disp k.toNat fun d => (s.dispstatRead d).setWidth 32)

/-- `RD8` of byte `k` of `VCOUNT` (R311, R301). -/
def execRd8Vcount (disp : BitVec 1) (k : BitVec 1) (s : State) : Host.Outcome State Fault Refusal :=
  .next (s.readReg disp k.toNat fun _ => s.vcountRead.setWidth 32)

/-- `RD8` of byte `k` of `BG0CNT` (R313, R301). -/
def execRd8Bg0cnt (disp : BitVec 1) (k : BitVec 1) (s : State) : Host.Outcome State Fault Refusal :=
  .next (s.readReg disp k.toNat fun d => d.regs.get .bg0cnt)

/-- `RD8` of byte `k` of `BG1CNT` (R313, R301). -/
def execRd8Bg1cnt (disp : BitVec 1) (k : BitVec 1) (s : State) : Host.Outcome State Fault Refusal :=
  .next (s.readReg disp k.toNat fun d => d.regs.get .bg1cnt)

/-- `RD8` of byte `k` of `BG2CNT` (R313, R301). -/
def execRd8Bg2cnt (disp : BitVec 1) (k : BitVec 1) (s : State) : Host.Outcome State Fault Refusal :=
  .next (s.readReg disp k.toNat fun d => d.regs.get .bg2cnt)

/-- `RD8` of byte `k` of `BG3CNT` (R313, R301). -/
def execRd8Bg3cnt (disp : BitVec 1) (k : BitVec 1) (s : State) : Host.Outcome State Fault Refusal :=
  .next (s.readReg disp k.toNat fun d => d.regs.get .bg3cnt)

/-- `RD8` of byte `k` of `BG0HOFS`: a write-only register, a draw whatever the byte (R302). -/
def execRd8Bg0hofs (disp : BitVec 1) (_k : BitVec 1) (s : State) : Host.Outcome State Fault Refusal :=
  .next (s.readDraw disp)

/-- `RD8` of byte `k` of `BG0VOFS`: a write-only register, a draw whatever the byte (R302). -/
def execRd8Bg0vofs (disp : BitVec 1) (_k : BitVec 1) (s : State) : Host.Outcome State Fault Refusal :=
  .next (s.readDraw disp)

/-- `RD8` of byte `k` of `BG1HOFS`: a write-only register, a draw whatever the byte (R302). -/
def execRd8Bg1hofs (disp : BitVec 1) (_k : BitVec 1) (s : State) : Host.Outcome State Fault Refusal :=
  .next (s.readDraw disp)

/-- `RD8` of byte `k` of `BG1VOFS`: a write-only register, a draw whatever the byte (R302). -/
def execRd8Bg1vofs (disp : BitVec 1) (_k : BitVec 1) (s : State) : Host.Outcome State Fault Refusal :=
  .next (s.readDraw disp)

/-- `RD8` of byte `k` of `BG2HOFS`: a write-only register, a draw whatever the byte (R302). -/
def execRd8Bg2hofs (disp : BitVec 1) (_k : BitVec 1) (s : State) : Host.Outcome State Fault Refusal :=
  .next (s.readDraw disp)

/-- `RD8` of byte `k` of `BG2VOFS`: a write-only register, a draw whatever the byte (R302). -/
def execRd8Bg2vofs (disp : BitVec 1) (_k : BitVec 1) (s : State) : Host.Outcome State Fault Refusal :=
  .next (s.readDraw disp)

/-- `RD8` of byte `k` of `BG3HOFS`: a write-only register, a draw whatever the byte (R302). -/
def execRd8Bg3hofs (disp : BitVec 1) (_k : BitVec 1) (s : State) : Host.Outcome State Fault Refusal :=
  .next (s.readDraw disp)

/-- `RD8` of byte `k` of `BG3VOFS`: a write-only register, a draw whatever the byte (R302). -/
def execRd8Bg3vofs (disp : BitVec 1) (_k : BitVec 1) (s : State) : Host.Outcome State Fault Refusal :=
  .next (s.readDraw disp)

/-- `RD8` of byte `k` of `BG2PA`: a write-only register, a draw whatever the byte (R302). -/
def execRd8Bg2pa (disp : BitVec 1) (_k : BitVec 1) (s : State) : Host.Outcome State Fault Refusal :=
  .next (s.readDraw disp)

/-- `RD8` of byte `k` of `BG2PB`: a write-only register, a draw whatever the byte (R302). -/
def execRd8Bg2pb (disp : BitVec 1) (_k : BitVec 1) (s : State) : Host.Outcome State Fault Refusal :=
  .next (s.readDraw disp)

/-- `RD8` of byte `k` of `BG2PC`: a write-only register, a draw whatever the byte (R302). -/
def execRd8Bg2pc (disp : BitVec 1) (_k : BitVec 1) (s : State) : Host.Outcome State Fault Refusal :=
  .next (s.readDraw disp)

/-- `RD8` of byte `k` of `BG2PD`: a write-only register, a draw whatever the byte (R302). -/
def execRd8Bg2pd (disp : BitVec 1) (_k : BitVec 1) (s : State) : Host.Outcome State Fault Refusal :=
  .next (s.readDraw disp)

/-- `RD8` of byte `k` of `BG2X`: a write-only register, a draw whatever the byte (R302). -/
def execRd8Bg2x (disp : BitVec 1) (_k : BitVec 2) (s : State) : Host.Outcome State Fault Refusal :=
  .next (s.readDraw disp)

/-- `RD8` of byte `k` of `BG2Y`: a write-only register, a draw whatever the byte (R302). -/
def execRd8Bg2y (disp : BitVec 1) (_k : BitVec 2) (s : State) : Host.Outcome State Fault Refusal :=
  .next (s.readDraw disp)

/-- `RD8` of byte `k` of `BG3PA`: a write-only register, a draw whatever the byte (R302). -/
def execRd8Bg3pa (disp : BitVec 1) (_k : BitVec 1) (s : State) : Host.Outcome State Fault Refusal :=
  .next (s.readDraw disp)

/-- `RD8` of byte `k` of `BG3PB`: a write-only register, a draw whatever the byte (R302). -/
def execRd8Bg3pb (disp : BitVec 1) (_k : BitVec 1) (s : State) : Host.Outcome State Fault Refusal :=
  .next (s.readDraw disp)

/-- `RD8` of byte `k` of `BG3PC`: a write-only register, a draw whatever the byte (R302). -/
def execRd8Bg3pc (disp : BitVec 1) (_k : BitVec 1) (s : State) : Host.Outcome State Fault Refusal :=
  .next (s.readDraw disp)

/-- `RD8` of byte `k` of `BG3PD`: a write-only register, a draw whatever the byte (R302). -/
def execRd8Bg3pd (disp : BitVec 1) (_k : BitVec 1) (s : State) : Host.Outcome State Fault Refusal :=
  .next (s.readDraw disp)

/-- `RD8` of byte `k` of `BG3X`: a write-only register, a draw whatever the byte (R302). -/
def execRd8Bg3x (disp : BitVec 1) (_k : BitVec 2) (s : State) : Host.Outcome State Fault Refusal :=
  .next (s.readDraw disp)

/-- `RD8` of byte `k` of `BG3Y`: a write-only register, a draw whatever the byte (R302). -/
def execRd8Bg3y (disp : BitVec 1) (_k : BitVec 2) (s : State) : Host.Outcome State Fault Refusal :=
  .next (s.readDraw disp)

/-- `RD8` of byte `k` of `WIN0H`: a write-only register, a draw whatever the byte (R302). -/
def execRd8Win0h (disp : BitVec 1) (_k : BitVec 1) (s : State) : Host.Outcome State Fault Refusal :=
  .next (s.readDraw disp)

/-- `RD8` of byte `k` of `WIN1H`: a write-only register, a draw whatever the byte (R302). -/
def execRd8Win1h (disp : BitVec 1) (_k : BitVec 1) (s : State) : Host.Outcome State Fault Refusal :=
  .next (s.readDraw disp)

/-- `RD8` of byte `k` of `WIN0V`: a write-only register, a draw whatever the byte (R302). -/
def execRd8Win0v (disp : BitVec 1) (_k : BitVec 1) (s : State) : Host.Outcome State Fault Refusal :=
  .next (s.readDraw disp)

/-- `RD8` of byte `k` of `WIN1V`: a write-only register, a draw whatever the byte (R302). -/
def execRd8Win1v (disp : BitVec 1) (_k : BitVec 1) (s : State) : Host.Outcome State Fault Refusal :=
  .next (s.readDraw disp)

/-- `RD8` of byte `k` of `WININ` (R320, R301). -/
def execRd8Winin (disp : BitVec 1) (k : BitVec 1) (s : State) : Host.Outcome State Fault Refusal :=
  .next (s.readReg disp k.toNat fun d => d.regs.get .winin)

/-- `RD8` of byte `k` of `WINOUT` (R322, R301). -/
def execRd8Winout (disp : BitVec 1) (k : BitVec 1) (s : State) : Host.Outcome State Fault Refusal :=
  .next (s.readReg disp k.toNat fun d => d.regs.get .winout)

/-- `RD8` of byte `k` of `MOSAIC`: a write-only register, a draw whatever the byte (R302). -/
def execRd8Mosaic (disp : BitVec 1) (_k : BitVec 1) (s : State) : Host.Outcome State Fault Refusal :=
  .next (s.readDraw disp)

/-- `RD8` of byte `k` of `UNUSED_04E`: an unused offset, a draw whatever the byte (R303). -/
def execRd8Unused04e (disp : BitVec 1) (_k : BitVec 1) (s : State) : Host.Outcome State Fault Refusal :=
  .next (s.readDraw disp)

/-- `RD8` of byte `k` of `BLDCNT` (R325, R301). -/
def execRd8Bldcnt (disp : BitVec 1) (k : BitVec 1) (s : State) : Host.Outcome State Fault Refusal :=
  .next (s.readReg disp k.toNat fun d => d.regs.get .bldcnt)

/-- `RD8` of byte `k` of `BLDALPHA` (R327, R301). -/
def execRd8Bldalpha (disp : BitVec 1) (k : BitVec 1) (s : State) : Host.Outcome State Fault Refusal :=
  .next (s.readReg disp k.toNat fun d => d.regs.get .bldalpha)

/-- `RD8` of byte `k` of `BLDY`: a write-only register, a draw whatever the byte (R302). -/
def execRd8Bldy (disp : BitVec 1) (_k : BitVec 1) (s : State) : Host.Outcome State Fault Refusal :=
  .next (s.readDraw disp)

/-- `RD8` of byte `k` of `UNUSED_056`: an unused offset, a draw whatever the byte (R303). -/
def execRd8Unused056 (disp : BitVec 1) (_k : BitVec 1) (s : State) : Host.Outcome State Fault Refusal :=
  .next (s.readDraw disp)

/-- `RD8` of byte `k` of `UNUSED_058`: an unused offset, a draw whatever the byte (R303). -/
def execRd8Unused058 (disp : BitVec 1) (_k : BitVec 3) (s : State) : Host.Outcome State Fault Refusal :=
  .next (s.readDraw disp)

end Sys2Proof.Machine
end

