-- ==== Sys2Proof/Machine/RegWrite.lean ====
section
/-! DEFINITION. The meanings of the `WR8` transactions, one per register slot (40_register_port.md R300-R329). Each is the
shared write `State.writeReg` of the register's byte, or of nothing where the write is ignored. -/

namespace Sys2Proof.Machine

/-- `WR8` of byte `k` of `DISPCNT` (R304, R300). -/
def execWr8Dispcnt (disp : BitVec 1) (k : BitVec 1) (data : Byte) (s : State) : Host.Outcome State Fault Refusal :=
  .next (s.writeReg disp fun d => d.storeByte .dispcnt k.toNat data)

/-- `WR8` of byte `k` of the green-swap slot: a non-zero byte is refused, zero has no effect (R305). -/
def execWr8Greenswap (disp : BitVec 1) (_k : BitVec 1) (data : Byte) (s : State) : Host.Outcome State Fault Refusal :=
  .next (s.transact (s.dispExists disp) fun s => s.registerAccess fun s =>
    if data = 0 then s else s.refuse .greenSwapUnmodelled)

/-- `WR8` of byte `k` of `DISPSTAT` (R308, R300). -/
def execWr8Dispstat (disp : BitVec 1) (k : BitVec 1) (data : Byte) (s : State) : Host.Outcome State Fault Refusal :=
  .next (s.writeReg disp fun d => d.storeByte .dispstat k.toNat data)

/-- `WR8` of byte `k` of `VCOUNT`: ignored, the register is read-only (R310). -/
def execWr8Vcount (disp : BitVec 1) (_k : BitVec 1) (_data : Byte) (s : State) : Host.Outcome State Fault Refusal :=
  .next (s.writeReg disp fun d => d)

/-- `WR8` of byte `k` of `BG0CNT` (R312, R300). -/
def execWr8Bg0cnt (disp : BitVec 1) (k : BitVec 1) (data : Byte) (s : State) : Host.Outcome State Fault Refusal :=
  .next (s.writeReg disp fun d => d.storeByte .bg0cnt k.toNat data)

/-- `WR8` of byte `k` of `BG1CNT` (R312, R300). -/
def execWr8Bg1cnt (disp : BitVec 1) (k : BitVec 1) (data : Byte) (s : State) : Host.Outcome State Fault Refusal :=
  .next (s.writeReg disp fun d => d.storeByte .bg1cnt k.toNat data)

/-- `WR8` of byte `k` of `BG2CNT` (R312, R300). -/
def execWr8Bg2cnt (disp : BitVec 1) (k : BitVec 1) (data : Byte) (s : State) : Host.Outcome State Fault Refusal :=
  .next (s.writeReg disp fun d => d.storeByte .bg2cnt k.toNat data)

/-- `WR8` of byte `k` of `BG3CNT` (R312, R300). -/
def execWr8Bg3cnt (disp : BitVec 1) (k : BitVec 1) (data : Byte) (s : State) : Host.Outcome State Fault Refusal :=
  .next (s.writeReg disp fun d => d.storeByte .bg3cnt k.toNat data)

/-- `WR8` of byte `k` of `BG0HOFS` (R314, R300). -/
def execWr8Bg0hofs (disp : BitVec 1) (k : BitVec 1) (data : Byte) (s : State) : Host.Outcome State Fault Refusal :=
  .next (s.writeReg disp fun d => d.storeByte .bg0hofs k.toNat data)

/-- `WR8` of byte `k` of `BG0VOFS` (R314, R300). -/
def execWr8Bg0vofs (disp : BitVec 1) (k : BitVec 1) (data : Byte) (s : State) : Host.Outcome State Fault Refusal :=
  .next (s.writeReg disp fun d => d.storeByte .bg0vofs k.toNat data)

/-- `WR8` of byte `k` of `BG1HOFS` (R314, R300). -/
def execWr8Bg1hofs (disp : BitVec 1) (k : BitVec 1) (data : Byte) (s : State) : Host.Outcome State Fault Refusal :=
  .next (s.writeReg disp fun d => d.storeByte .bg1hofs k.toNat data)

/-- `WR8` of byte `k` of `BG1VOFS` (R314, R300). -/
def execWr8Bg1vofs (disp : BitVec 1) (k : BitVec 1) (data : Byte) (s : State) : Host.Outcome State Fault Refusal :=
  .next (s.writeReg disp fun d => d.storeByte .bg1vofs k.toNat data)

/-- `WR8` of byte `k` of `BG2HOFS` (R314, R300). -/
def execWr8Bg2hofs (disp : BitVec 1) (k : BitVec 1) (data : Byte) (s : State) : Host.Outcome State Fault Refusal :=
  .next (s.writeReg disp fun d => d.storeByte .bg2hofs k.toNat data)

/-- `WR8` of byte `k` of `BG2VOFS` (R314, R300). -/
def execWr8Bg2vofs (disp : BitVec 1) (k : BitVec 1) (data : Byte) (s : State) : Host.Outcome State Fault Refusal :=
  .next (s.writeReg disp fun d => d.storeByte .bg2vofs k.toNat data)

/-- `WR8` of byte `k` of `BG3HOFS` (R314, R300). -/
def execWr8Bg3hofs (disp : BitVec 1) (k : BitVec 1) (data : Byte) (s : State) : Host.Outcome State Fault Refusal :=
  .next (s.writeReg disp fun d => d.storeByte .bg3hofs k.toNat data)

/-- `WR8` of byte `k` of `BG3VOFS` (R314, R300). -/
def execWr8Bg3vofs (disp : BitVec 1) (k : BitVec 1) (data : Byte) (s : State) : Host.Outcome State Fault Refusal :=
  .next (s.writeReg disp fun d => d.storeByte .bg3vofs k.toNat data)

/-- `WR8` of byte `k` of `BG2PA` (R315, R300). -/
def execWr8Bg2pa (disp : BitVec 1) (k : BitVec 1) (data : Byte) (s : State) : Host.Outcome State Fault Refusal :=
  .next (s.writeReg disp fun d => d.storeByte .bg2pa k.toNat data)

/-- `WR8` of byte `k` of `BG2PB` (R315, R300). -/
def execWr8Bg2pb (disp : BitVec 1) (k : BitVec 1) (data : Byte) (s : State) : Host.Outcome State Fault Refusal :=
  .next (s.writeReg disp fun d => d.storeByte .bg2pb k.toNat data)

/-- `WR8` of byte `k` of `BG2PC` (R315, R300). -/
def execWr8Bg2pc (disp : BitVec 1) (k : BitVec 1) (data : Byte) (s : State) : Host.Outcome State Fault Refusal :=
  .next (s.writeReg disp fun d => d.storeByte .bg2pc k.toNat data)

/-- `WR8` of byte `k` of `BG2PD` (R315, R300). -/
def execWr8Bg2pd (disp : BitVec 1) (k : BitVec 1) (data : Byte) (s : State) : Host.Outcome State Fault Refusal :=
  .next (s.writeReg disp fun d => d.storeByte .bg2pd k.toNat data)

/-- `WR8` of byte `k` of `BG2X`: store, then reload the internal reference point (R316). -/
def execWr8Bg2x (disp : BitVec 1) (k : BitVec 2) (data : Byte) (s : State) : Host.Outcome State Fault Refusal :=
  .next (s.writeReg disp fun d => d.storeRefByte .bg2x k.toNat data)

/-- `WR8` of byte `k` of `BG2Y`: store, then reload the internal reference point (R316). -/
def execWr8Bg2y (disp : BitVec 1) (k : BitVec 2) (data : Byte) (s : State) : Host.Outcome State Fault Refusal :=
  .next (s.writeReg disp fun d => d.storeRefByte .bg2y k.toNat data)

/-- `WR8` of byte `k` of `BG3PA` (R315, R300). -/
def execWr8Bg3pa (disp : BitVec 1) (k : BitVec 1) (data : Byte) (s : State) : Host.Outcome State Fault Refusal :=
  .next (s.writeReg disp fun d => d.storeByte .bg3pa k.toNat data)

/-- `WR8` of byte `k` of `BG3PB` (R315, R300). -/
def execWr8Bg3pb (disp : BitVec 1) (k : BitVec 1) (data : Byte) (s : State) : Host.Outcome State Fault Refusal :=
  .next (s.writeReg disp fun d => d.storeByte .bg3pb k.toNat data)

/-- `WR8` of byte `k` of `BG3PC` (R315, R300). -/
def execWr8Bg3pc (disp : BitVec 1) (k : BitVec 1) (data : Byte) (s : State) : Host.Outcome State Fault Refusal :=
  .next (s.writeReg disp fun d => d.storeByte .bg3pc k.toNat data)

/-- `WR8` of byte `k` of `BG3PD` (R315, R300). -/
def execWr8Bg3pd (disp : BitVec 1) (k : BitVec 1) (data : Byte) (s : State) : Host.Outcome State Fault Refusal :=
  .next (s.writeReg disp fun d => d.storeByte .bg3pd k.toNat data)

/-- `WR8` of byte `k` of `BG3X`: store, then reload the internal reference point (R316). -/
def execWr8Bg3x (disp : BitVec 1) (k : BitVec 2) (data : Byte) (s : State) : Host.Outcome State Fault Refusal :=
  .next (s.writeReg disp fun d => d.storeRefByte .bg3x k.toNat data)

/-- `WR8` of byte `k` of `BG3Y`: store, then reload the internal reference point (R316). -/
def execWr8Bg3y (disp : BitVec 1) (k : BitVec 2) (data : Byte) (s : State) : Host.Outcome State Fault Refusal :=
  .next (s.writeReg disp fun d => d.storeRefByte .bg3y k.toNat data)

/-- `WR8` of byte `k` of `WIN0H` (R317, R300). -/
def execWr8Win0h (disp : BitVec 1) (k : BitVec 1) (data : Byte) (s : State) : Host.Outcome State Fault Refusal :=
  .next (s.writeReg disp fun d => d.storeByte .win0h k.toNat data)

/-- `WR8` of byte `k` of `WIN1H` (R317, R300). -/
def execWr8Win1h (disp : BitVec 1) (k : BitVec 1) (data : Byte) (s : State) : Host.Outcome State Fault Refusal :=
  .next (s.writeReg disp fun d => d.storeByte .win1h k.toNat data)

/-- `WR8` of byte `k` of `WIN0V` (R318, R300). -/
def execWr8Win0v (disp : BitVec 1) (k : BitVec 1) (data : Byte) (s : State) : Host.Outcome State Fault Refusal :=
  .next (s.writeReg disp fun d => d.storeByte .win0v k.toNat data)

/-- `WR8` of byte `k` of `WIN1V` (R318, R300). -/
def execWr8Win1v (disp : BitVec 1) (k : BitVec 1) (data : Byte) (s : State) : Host.Outcome State Fault Refusal :=
  .next (s.writeReg disp fun d => d.storeByte .win1v k.toNat data)

/-- `WR8` of byte `k` of `WININ` (R319, R300). -/
def execWr8Winin (disp : BitVec 1) (k : BitVec 1) (data : Byte) (s : State) : Host.Outcome State Fault Refusal :=
  .next (s.writeReg disp fun d => d.storeByte .winin k.toNat data)

/-- `WR8` of byte `k` of `WINOUT` (R321, R300). -/
def execWr8Winout (disp : BitVec 1) (k : BitVec 1) (data : Byte) (s : State) : Host.Outcome State Fault Refusal :=
  .next (s.writeReg disp fun d => d.storeByte .winout k.toNat data)

/-- `WR8` of byte `k` of `MOSAIC` (R323, R300). -/
def execWr8Mosaic (disp : BitVec 1) (k : BitVec 1) (data : Byte) (s : State) : Host.Outcome State Fault Refusal :=
  .next (s.writeReg disp fun d => d.storeByte .mosaic k.toNat data)

/-- `WR8` of byte `k` of `UNUSED_04E`: ignored, an unused offset (R303). -/
def execWr8Unused04e (disp : BitVec 1) (_k : BitVec 1) (_data : Byte) (s : State) : Host.Outcome State Fault Refusal :=
  .next (s.writeReg disp fun d => d)

/-- `WR8` of byte `k` of `BLDCNT` (R324, R300). -/
def execWr8Bldcnt (disp : BitVec 1) (k : BitVec 1) (data : Byte) (s : State) : Host.Outcome State Fault Refusal :=
  .next (s.writeReg disp fun d => d.storeByte .bldcnt k.toNat data)

/-- `WR8` of byte `k` of `BLDALPHA` (R326, R300). -/
def execWr8Bldalpha (disp : BitVec 1) (k : BitVec 1) (data : Byte) (s : State) : Host.Outcome State Fault Refusal :=
  .next (s.writeReg disp fun d => d.storeByte .bldalpha k.toNat data)

/-- `WR8` of byte `k` of `BLDY` (R328, R300). -/
def execWr8Bldy (disp : BitVec 1) (k : BitVec 1) (data : Byte) (s : State) : Host.Outcome State Fault Refusal :=
  .next (s.writeReg disp fun d => d.storeByte .bldy k.toNat data)

/-- `WR8` of byte `k` of `UNUSED_056`: ignored, an unused offset (R303). -/
def execWr8Unused056 (disp : BitVec 1) (_k : BitVec 1) (_data : Byte) (s : State) : Host.Outcome State Fault Refusal :=
  .next (s.writeReg disp fun d => d)

/-- `WR8` of byte `k` of `UNUSED_058`: ignored, an unused offset (R303). -/
def execWr8Unused058 (disp : BitVec 1) (_k : BitVec 3) (_data : Byte) (s : State) : Host.Outcome State Fault Refusal :=
  .next (s.writeReg disp fun d => d)

end Sys2Proof.Machine
end

