-- ==== Sys2Proof/Machine/Tiled.lean ====
section
/-! DEFINITION. The text-layer renderer (42_tiled_layer_renderer.md) and the background fetch it shares with the affine
layers. -/

namespace Sys2Proof.Machine

/-- One sample of a background layer. -/
inductive Texel where
  /-- Transparent. -/
  | transparent
  /-- An opaque background palette index. -/
  | index (p : BitVec 8)
  /-- A direct colour, `DIRECT(c)` (44_bitmap_layer_renderer.md). -/
  | direct (c : Color)
deriving DecidableEq, Repr

/-- `BgRead8(a)` (R458). -/
def Display.bgRead8 (c : Config) (d : Display) (a : Nat) : Byte :=
  if a < c.bgTileVramLimit then d.readByte .vram a else c.bgVramOobByte

/-- `BgRead16(a)` (R458). -/
def Display.bgRead16 (c : Config) (d : Display) (a : Nat) : Half :=
  Display.bgRead8 c d (a + 1) ++ Display.bgRead8 c d a

/-- The first column of the background mosaic block of column `x` (R451). -/
def Regs.mosaicX (r : Regs) (cnt : Half) (x : Nat) : Nat :=
  if bgMosaic cnt then x - x % r.mosBgH else x

/-- The first line of the background mosaic block of line `l` (R451). -/
def Regs.mosaicY (r : Regs) (cnt : Half) (l : Nat) : Nat :=
  if bgMosaic cnt then l - l % r.mosBgV else l

/-- The width of a text layer in pixels, by `SCREEN_SIZE` (30_encoding.md R226). -/
def textWidth (size : Nat) : Nat := if size = 1 ∨ size = 3 then 512 else 256

/-- The height of a text layer in pixels, by `SCREEN_SIZE` (R226). -/
def textHeight (size : Nat) : Nat := if size = 2 ∨ size = 3 then 512 else 256

/-- The address of the map entry of layer pixel `(tx, ty)` (R453). -/
def textMapAddr (cnt : Half) (tx ty : Nat) : Nat :=
  let blk :=
    match bgScreenSize cnt with
    | 0 => 0
    | 1 => tx / 256
    | 2 => ty / 256
    | _ => 2 * (ty / 256) + tx / 256
  bgScreenBase cnt + blk * 0x800 + ((ty % 256) / 8) * 64 + ((tx % 256) / 8) * 2

/-- The coordinate inside a tile, mirrored when the flip bit is set (R455). -/
def flip8 (flip : Bool) (p : Nat) : Nat := if flip then 7 - p else p

/-- The nibble of a 4-bit texel: low for an even column, high for an odd one (30_encoding.md R216). -/
def nibble (b : Byte) (column : Nat) : BitVec 4 :=
  if column % 2 = 0 then b.extractLsb' 0 4 else b.extractLsb' 4 4

/-- An 8-bit texel: index 0 is transparent (R457, 43_affine_layer_renderer.md R506). -/
def texel8 (b : Byte) : Texel := if b = 0 then .transparent else .index b

/-- The texel at column `px` and row `py` of the tile a map entry names (R454-R457). For a 4-bit tile the palette
index is `pal * 16 + i`, the two nibbles side by side. -/
def Display.tileTexel (c : Config) (d : Display) (cnt entry : Half) (tx ty : Nat) : Texel :=
  let tile := field entry 0 10
  let px := flip8 (entry.getLsbD 10) (tx % 8)
  let py := flip8 (entry.getLsbD 11) (ty % 8)
  let pal := entry.extractLsb' 12 4
  if bgColor8bpp cnt then
    texel8 (Display.bgRead8 c d (bgCharBase cnt + tile * 64 + py * 8 + px))
  else
    let b := Display.bgRead8 c d (bgCharBase cnt + tile * 32 + py * 4 + px / 2)
    let i := nibble b px
    if i = 0 then .transparent else .index (pal ++ i)

/-- `TXn[x]` of text layer `n` on line `l` (R451-R459). -/
def Display.textTexel (c : Config) (d : Display) (n : Bg) (l x : Nat) : Texel :=
  let cnt := d.regs.bgcnt n
  let size := bgScreenSize cnt
  let tx := (d.regs.mosaicX cnt x + (d.regs.hofs n).toNat) % textWidth size
  let ty := (d.regs.mosaicY cnt l + (d.regs.vofs n).toNat) % textHeight size
  let entry := Display.bgRead16 c d (textMapAddr cnt tx ty)
  Display.tileTexel c d cnt entry tx ty

end Sys2Proof.Machine
end

