-- ==== Sys2Proof/Machine/Affine.lean ====
section
/-! DEFINITION. The affine-layer renderer (43_affine_layer_renderer.md). -/

namespace Sys2Proof.Machine

/-- The start point of line `l` of an affine layer: the internal reference point, corrected for vertical mosaic
(R502). -/
def Display.affineStart (d : Display) (n : AffineBg) (l : Nat) : Int × Int :=
  let r := d.regs
  let m : Int := if bgMosaic (r.affineCnt n) then ((l % r.mosBgV : Nat) : Int) else 0
  (d.xInt n - m * r.pb n, d.yInt n - m * r.pd n)

/-- The sample point `(tx, ty)` of column `x` on line `l` (R503): unbounded integers, shifted right by 8 (floor). -/
def Display.affinePoint (d : Display) (n : AffineBg) (l x : Nat) : Int × Int :=
  let r := d.regs
  let start := d.affineStart n l
  let xs : Int := ((r.mosaicX (r.affineCnt n) x : Nat) : Int)
  ((start.1 + xs * r.pa n) / 256, (start.2 + xs * r.pc n) / 256)

/-- The size in pixels of an affine layer (R501, 30_encoding.md R227). -/
def affineSize (cnt : Half) : Nat := 128 <<< bgScreenSize cnt

/-- Wrap or clip a sample point against the layer's square size (R504): `none` is a clipped point. -/
def affineBound (wrap : Bool) (size : Nat) (p : Int × Int) : Option (Nat × Nat) :=
  if wrap then some ((p.1 % size).toNat, (p.2 % size).toNat)
  else if p.1 < 0 ∨ (size : Int) ≤ p.1 ∨ p.2 < 0 ∨ (size : Int) ≤ p.2 then none
  else some (p.1.toNat, p.2.toNat)

/-- The texel at layer pixel `(tx, ty)`: map fetch and texel fetch (R505, R506). -/
def Display.affineFetch (c : Config) (d : Display) (cnt : Half) (tx ty : Nat) : Texel :=
  let tile := (Display.bgRead8 c d (bgScreenBase cnt + ty / 8 * (affineSize cnt / 8) + tx / 8)).toNat
  texel8 (Display.bgRead8 c d (bgCharBase cnt + tile * 64 + ty % 8 * 8 + tx % 8))

/-- `TXn[x]` of affine layer `n` on line `l` (R500-R506). -/
def Display.affineTexel (c : Config) (d : Display) (n : AffineBg) (l x : Nat) : Texel :=
  let cnt := d.regs.affineCnt n
  match affineBound (bgOverflowWrap cnt) (affineSize cnt) (d.affinePoint n l x) with
  | some (tx, ty) => Display.affineFetch c d cnt tx ty
  | none => .transparent

end Sys2Proof.Machine
end

