-- ==== Sys2Proof/Machine/Bitmap.lean ====
section
/-! DEFINITION. The bitmap-layer renderer of layer 2 in modes 3, 4 and 5 (44_bitmap_layer_renderer.md). -/

namespace Sys2Proof.Machine

/-- The three bitmap formats (30_encoding.md R219). -/
inductive BitmapMode where
  /-- Mode 3: 240 × 160, 16-bit colour, no page. -/
  | mode3
  /-- Mode 4: 240 × 160, 8-bit palette index, paged. -/
  | mode4
  /-- Mode 5: 160 × 128, 16-bit colour, paged. -/
  | mode5
deriving DecidableEq, Repr

/-- The bitmap's width (R219). -/
def BitmapMode.width : BitmapMode → Nat
  | .mode3 => 240
  | .mode4 => 240
  | .mode5 => 160

/-- The bitmap's height (R219). -/
def BitmapMode.height : BitmapMode → Nat
  | .mode3 => 160
  | .mode4 => 160
  | .mode5 => 128

/-- `PAGE` (R546). -/
def Regs.bitmapPage (r : Regs) : Nat := if r.frameSelect then 0xA000 else 0x0000

/-- The pixel at bitmap position `(tx, ty)` (R543-R545). -/
def Display.bitmapFetch (d : Display) (m : BitmapMode) (tx ty : Nat) : Texel :=
  match m with
  | .mode3 => .direct ((d.readHalf .vram (2 * (240 * ty + tx))).setWidth 15)
  | .mode4 => texel8 (d.readByte .vram (d.regs.bitmapPage + 240 * ty + tx))
  | .mode5 => .direct ((d.readHalf .vram (d.regs.bitmapPage + 2 * (160 * ty + tx))).setWidth 15)

/-- `BMP[x]` on line `l` (R541, R542): sampled through layer 2's affine path, never wrapped. -/
def Display.bitmapTexel (d : Display) (m : BitmapMode) (l x : Nat) : Texel :=
  let p := d.affinePoint .bg2 l x
  if p.1 < 0 ∨ (m.width : Int) ≤ p.1 ∨ p.2 < 0 ∨ (m.height : Int) ≤ p.2 then .transparent
  else d.bitmapFetch m p.1.toNat p.2.toNat

end Sys2Proof.Machine
end

