-- ==== Sys2Proof/Machine/Blend.lean ====
section
/-! DEFINITION. The alpha blender: colour channels and the effect arithmetic (47_priority_blend_compositor.md R676-R679,
00_scope.md R13). -/

namespace Sys2Proof.Machine

/-- The red channel `R(c)` (R13). -/
def red (c : Color) : Nat := field c 0 5
/-- The green channel `G(c)` (R13). -/
def green (c : Color) : Nat := field c 5 5
/-- The blue channel `B(c)` (R13). -/
def blue (c : Color) : Nat := field c 10 5

/-- `RGB(r, g, b)`, the low five bits of each channel (R13). -/
def rgb (r g b : Nat) : Color := BitVec.ofNat 5 b ++ BitVec.ofNat 5 g ++ BitVec.ofNat 5 r

/-- One channel of an alpha blend, `ch(p, q)` (R676): saturated at 31. -/
def alphaChannel (eva evb p q : Nat) : Nat := min 31 ((p * eva + q * evb) / 16)

/-- `Alpha(a, b)` (R676). -/
def alphaBlend (eva evb : Nat) (a b : Color) : Color :=
  rgb (alphaChannel eva evb (red a) (red b)) (alphaChannel eva evb (green a) (green b))
    (alphaChannel eva evb (blue a) (blue b))

/-- One channel of a brightness increase, `up(p)` (R677). -/
def brightenChannel (evy p : Nat) : Nat := p + (31 - p) * evy / 16

/-- `Brighten(a)` (R677). -/
def brighten (evy : Nat) (a : Color) : Color :=
  rgb (brightenChannel evy (red a)) (brightenChannel evy (green a)) (brightenChannel evy (blue a))

/-- One channel of a brightness decrease, `dn(p)` (R678). -/
def darkenChannel (evy p : Nat) : Nat := p - p * evy / 16

/-- `Darken(a)` (R678). -/
def darken (evy : Nat) (a : Color) : Color :=
  rgb (darkenChannel evy (red a)) (darkenChannel evy (green a)) (darkenChannel evy (blue a))

end Sys2Proof.Machine
end

