-- ==== Sys2Proof/Machine/Sprite.lean ====
section
/-! DEFINITION. The sprite renderer (45_sprite_renderer.md) and the sprite attribute formats (30_encoding.md R220-R224,
R229). -/

namespace Sys2Proof.Machine

/-- The decoded attributes of a sprite entry (30_encoding.md R220-R222). -/
structure ObjAttr where
  /-- `Y`, the top line. -/
  y : Nat
  /-- `AFFINE`. -/
  affine : Bool
  /-- Bit 9 of word 0: `DOUBLE` of an affine entry, `DISABLE` of a regular one. -/
  bit9 : Bool
  /-- `MODE` (R229). -/
  mode : Nat
  /-- `MOSAIC`. -/
  mosaic : Bool
  /-- `COLOR_8BPP`. -/
  color8bpp : Bool
  /-- `SHAPE` (R224). -/
  shape : Nat
  /-- `X`, the left column. -/
  x : Nat
  /-- `SIZE` (R224). -/
  size : Nat
  /-- `GROUP`, the affine parameter group. -/
  group : Nat
  /-- `HFLIP` of a regular entry. -/
  hflip : Bool
  /-- `VFLIP` of a regular entry. -/
  vflip : Bool
  /-- `TILE`, the base tile number in 32-byte units. -/
  tile : Nat
  /-- `PRIORITY`. -/
  priority : BitVec 2
  /-- `PALBANK`. -/
  palbank : BitVec 4
deriving DecidableEq, Repr

/-- Decode the three attribute words (R220-R222). -/
def decodeAttr (a0 a1 a2 : Half) : ObjAttr where
  y := field a0 0 8
  affine := a0.getLsbD 8
  bit9 := a0.getLsbD 9
  mode := field a0 10 2
  mosaic := a0.getLsbD 12
  color8bpp := a0.getLsbD 13
  shape := field a0 14 2
  x := field a1 0 9
  size := field a1 14 2
  group := field a1 9 5
  hflip := a1.getLsbD 12
  vflip := a1.getLsbD 13
  tile := field a2 0 10
  priority := a2.extractLsb' 10 2
  palbank := a2.extractLsb' 12 4

/-- The attributes of entry `i` (R583). -/
def Display.objAttr (d : Display) (i : Nat) : ObjAttr :=
  decodeAttr (d.readHalf .oam (8 * i)) (d.readHalf .oam (8 * i + 2)) (d.readHalf .oam (8 * i + 4))

/-- `(w, h)` by shape and size (30_encoding.md R224); shape 3 is suppressed before its size is used. -/
def objSize (shape size : Nat) : Nat × Nat :=
  match shape, size with
  | 0, 0 => (8, 8)
  | 0, 1 => (16, 16)
  | 0, 2 => (32, 32)
  | 0, _ => (64, 64)
  | 1, 0 => (16, 8)
  | 1, 1 => (32, 8)
  | 1, 2 => (32, 16)
  | 1, _ => (64, 32)
  | 2, 0 => (8, 16)
  | 2, 1 => (8, 32)
  | 2, 2 => (16, 32)
  | 2, _ => (32, 64)
  | _, _ => (0, 0)

/-- The entry contributes nothing (R584): disabled, an invalid mode or shape, or a tile in bitmap memory. -/
def ObjAttr.suppressed (a : ObjAttr) (bgMode : Nat) : Bool :=
  (!a.affine && a.bit9) || decide (a.mode = 3) || decide (a.shape = 3) ||
    (decide (3 ≤ bgMode ∧ bgMode ≤ 5) && decide (a.tile < 512))

/-- `(bw, bh)`, the bounding box (R585): doubled for a double-size affine entry. -/
def ObjAttr.box (a : ObjAttr) : Nat × Nat :=
  let wh := objSize a.shape a.size
  if a.affine && a.bit9 then (2 * wh.1, 2 * wh.2) else wh

/-- `dy`, the line of the bounding box that line `t` is, modulo 256 (R586). -/
def ObjAttr.dy (a : ObjAttr) (t : Nat) : Nat := (((t : Int) - a.y) % 256).toNat

/-- The entry covers line `t` (R586). -/
def ObjAttr.covers (a : ObjAttr) (t : Nat) : Bool := decide (a.dy t < a.box.2)

/-- `col`, the screen column of column `dx` of the bounding box, modulo 512 (R587). -/
def ObjAttr.col (a : ObjAttr) (dx : Nat) : Nat := (a.x + dx) % 512

/-- Sprite mosaic of one coordinate (R588): held at the start of the screen-aligned block, not below 0. Natural
subtraction is the rule's `max(0, p - q)`. -/
def ObjAttr.hold (a : ObjAttr) (p screen block : Nat) : Nat :=
  if a.mosaic then p - screen % block else p

/-- The parameter group of an affine entry: `PA, PB, PC, PD` of group `g` (30_encoding.md R223). -/
def Display.objMatrix (d : Display) (g : Nat) : Int × Int × Int × Int :=
  ((d.readHalf .oam (32 * g + 6)).toInt, (d.readHalf .oam (32 * g + 14)).toInt,
    (d.readHalf .oam (32 * g + 22)).toInt, (d.readHalf .oam (32 * g + 30)).toInt)

/-- The affine sample `(sx, sy)` about the sprite's centre (R589). -/
def affineObjPoint (m : Int × Int × Int × Int) (w h bw bh dxs dys : Nat) : Int × Int :=
  let rx : Int := (dxs : Int) - ((bw / 2 : Nat) : Int)
  let ry : Int := (dys : Int) - ((bh / 2 : Nat) : Int)
  ((m.1 * rx + m.2.1 * ry) / 256 + ((w / 2 : Nat) : Int),
    (m.2.2.1 * rx + m.2.2.2 * ry) / 256 + ((h / 2 : Nat) : Int))

/-- The sample point `(sx, sy)` of column `dx` on line `t`, or none where the column is skipped (R588, R589). -/
def Display.objSample (d : Display) (a : ObjAttr) (t dx : Nat) : Option (Nat × Nat) :=
  let wh := objSize a.shape a.size
  let dys := a.hold (a.dy t) t d.regs.mosObjV
  let dxs := a.hold dx (a.col dx) d.regs.mosObjH
  if a.affine then
    let p := affineObjPoint (d.objMatrix a.group) wh.1 wh.2 a.box.1 a.box.2 dxs dys
    if p.1 < 0 ∨ (wh.1 : Int) ≤ p.1 ∨ p.2 < 0 ∨ (wh.2 : Int) ≤ p.2 then none
    else some (p.1.toNat, p.2.toNat)
  else
    some (if a.hflip then wh.1 - 1 - dxs else dxs, if a.vflip then wh.2 - 1 - dys else dys)

/-- `tnum`, the tile number that holds sample `(sx, sy)` (R591). -/
def ObjAttr.tileNum (a : ObjAttr) (oneDim : Bool) (sx sy : Nat) : Nat :=
  let step := if a.color8bpp then 2 else 1
  if oneDim then a.tile + (sy / 8 * ((objSize a.shape a.size).1 / 8) + sx / 8) * step
  else (if a.color8bpp then a.tile - a.tile % 2 else a.tile) + sy / 8 * 32 + sx / 8 * step

/-- `off`, the offset of a sample's texel byte from the start of its tile data (R592), before the 32 KiB wrap. -/
def ObjAttr.texelOff (a : ObjAttr) (tnum sx sy : Nat) : Nat :=
  if a.color8bpp then tnum * 32 + sy % 8 * 8 + sx % 8
  else tnum * 32 + sy % 8 * 4 + sx % 8 / 2

/-- The sprite palette index at sample `(sx, sy)`, or none where the texel is transparent (R592). The index is
`256 + idx`, or `256 + PALBANK * 16 + idx` for a 4-bit sprite: the fields side by side under a leading 1. -/
def Display.objTexel (c : Config) (d : Display) (a : ObjAttr) (sx sy : Nat) : Option (BitVec 9) :=
  let off := a.texelOff (a.tileNum d.regs.obj1d sx sy) sx sy
  let b := d.readByte .vram (c.objVramBase + off % 0x8000)
  if a.color8bpp then
    if b = 0 then none else some (1#1 ++ b)
  else
    let i := if sx % 2 = 0 then b.extractLsb' 0 4 else b.extractLsb' 4 4
    if i = 0 then none else some (1#1 ++ (a.palbank ++ i))

/-- The palette index column `dx` of the entry shows on line `t`, or none (R588-R592). -/
def Display.objColumn (c : Config) (d : Display) (a : ObjAttr) (t dx : Nat) : Option (BitVec 9) :=
  match d.objSample a t dx with
  | some (sx, sy) => Display.objTexel c d a sx sy
  | none => none

/-- The current sprite pixel of a column: none where nothing is present. -/
def Display.objPixelAt (d : Display) (col : Nat) : Option ObjPixel := d.objBuf.getD col none

/-- Does a pixel of priority `p` replace the column's current one (R594)? -/
def objBeats (p : BitVec 2) (current : Option ObjPixel) : Bool :=
  match current with
  | none => true
  | some q => decide (p.toNat < q.prio.toNat)

/-- Draw an opaque texel at a column: an object-window hit for a window-mode entry (R593), else a pixel that is
merged by priority (R594). -/
def Display.objPlot (d : Display) (a : ObjAttr) (col : Nat) (palidx : BitVec 9) : Display :=
  if a.mode = 2 then { d with objWin := d.objWin.set col true }
  else if objBeats a.priority (d.objPixelAt col) then
    { d with
      objBuf := d.objBuf.set col
        (some
          { palidx := palidx
            color := d.pal15 palidx.toNat
            prio := a.priority
            translucent := decide (a.mode = 1) }) }
  else d

/-- One column of an entry: columns off the screen are skipped (R587). -/
def Display.drawObjColumn (c : Config) (a : ObjAttr) (t : Nat) (d : Display) (dx : Nat) : Display :=
  if a.col dx < c.screenW then
    match Display.objColumn c d a t dx with
    | some palidx => d.objPlot a (a.col dx) palidx
    | none => d
  else d

/-- One entry of the attribute table on line `t` (R584-R594). -/
def Display.drawObj (c : Config) (t : Nat) (d : Display) (i : Nat) : Display :=
  let a := d.objAttr i
  if a.suppressed d.regs.bgMode then d
  else if a.covers t then (List.range a.box.1).foldl (Display.drawObjColumn c a t) d
  else d

/-- Clear the sprite line buffers for target line `t` (R581). -/
def Display.clearObj (c : Config) (d : Display) (t : Nat) : Display :=
  { d with
    objBuf := List.replicate c.screenW none
    objWin := List.replicate c.screenW false
    objBufLine := some t }

/-- `SpritePrerender(t)` (R580-R583): clear, stop if sprites are disabled, then every entry in increasing order. -/
def Display.spritePrerender (c : Config) (t : Nat) (d : Display) : Display :=
  let cleared := Display.clearObj c d t
  if cleared.regs.objEn then (List.range Config.numObj).foldl (Display.drawObj c t) cleared
  else cleared

end Sys2Proof.Machine
end

