-- ==== Sys2Proof/Machine/Window.lean ====
section
/-! DEFINITION. The window mask unit (46_window_mask_unit.md). -/

namespace Sys2Proof.Machine

/-- `Inside(lo, hi, v)` (R641): `lo` inclusive, `hi` exclusive, wrapping past 255 when `lo > hi`. -/
def inside (lo hi v : Nat) : Bool :=
  if lo ≤ hi then decide (lo ≤ v) && decide (v < hi) else decide (lo ≤ v) || decide (v < hi)

/-- A rectangle hit at column `x` of line `l` from a window's enable and bounds registers (R642). -/
def inWin (enabled : Bool) (h v : Half) (x l : Nat) : Bool :=
  enabled && inside (field h 8 8) (field h 0 8) x && inside (field v 8 8) (field v 0 8) (l % 256)

/-- `OBJWIN[x]` as line `l` sees it: valid only when the buffers were rendered for `l` (R640, 48_framebuffer_mux.md
R722). -/
def Display.objWinHit (d : Display) (l x : Nat) : Bool :=
  decide (d.objBufLine = some l) && d.objWin.getD x false

/-- `WINMASK[x]` of line `l` (R643): window 0 over window 1 over the object window over outside. -/
def Display.winMask (d : Display) (l x : Nat) : BitVec 6 :=
  let r := d.regs
  if !(r.win0En || r.win1En || r.objwinEn) then 0b111111
  else if inWin r.win0En r.win0h r.win0v x l then r.winin.extractLsb' 0 6
  else if inWin r.win1En r.win1h r.win1v x l then r.winin.extractLsb' 8 6
  else if r.objwinEn && d.objWinHit l x then r.winout.extractLsb' 8 6
  else r.winout.extractLsb' 0 6

end Sys2Proof.Machine
end

