-- ==== Sys2Proof/Machine/Compositor.lean ====
section
/-! DEFINITION. The background mode table, the priority encoder and the colour compositor (30_encoding.md R225;
47_priority_blend_compositor.md R670-R675, R680). -/

namespace Sys2Proof.Machine

/-- What draws a background layer in a mode (30_encoding.md R225). -/
inductive LayerKind where
  /-- The layer does not exist in the mode. -/
  | absent
  /-- A text layer. -/
  | text
  /-- An affine layer. -/
  | affine (n : AffineBg)
  /-- The bitmap layer. -/
  | bitmap (m : BitmapMode)
deriving DecidableEq, Repr

/-- The background mode table (R225). Modes 6 and 7 have no layers; a render instant refuses them first (R412). -/
def layerKind (mode : Nat) (n : Bg) : LayerKind :=
  match mode, n with
  | 0, _ => .text
  | 1, .bg0 => .text
  | 1, .bg1 => .text
  | 1, .bg2 => .affine .bg2
  | 2, .bg2 => .affine .bg2
  | 2, .bg3 => .affine .bg3
  | 3, .bg2 => .bitmap .mode3
  | 4, .bg2 => .bitmap .mode4
  | 5, .bg2 => .bitmap .mode5
  | _, _ => .absent

/-- The texel of background layer `n` at column `x` of line `l`, by the renderer of its kind (R450, R500, R540). A
layer that does not exist contributes no candidate, which a transparent texel says. -/
def Display.bgTexel (c : Config) (d : Display) (n : Bg) (l x : Nat) : Texel :=
  match layerKind d.regs.bgMode n with
  | .absent => .transparent
  | .text => Display.textTexel c d n l x
  | .affine m => Display.affineTexel c d m l x
  | .bitmap m => d.bitmapTexel m l x

/-- The source of a candidate: a background layer, the sprites or the backdrop (00_scope.md R14). -/
inductive Layer where
  /-- A background layer. -/
  | bg (n : Bg)
  /-- `OBJ`, the sprites. -/
  | obj
  /-- `BD`, the backdrop. -/
  | bd
deriving DecidableEq, Repr

/-- A candidate of a column (R670). -/
structure Candidate where
  /-- Where the pixel comes from. -/
  layer : Layer
  /-- Its priority. -/
  prio : Nat
  /-- Its colour. -/
  color : Color
  /-- It is a pixel of a translucent sprite. -/
  translucent : Bool
deriving DecidableEq, Repr

/-- The colour of an opaque texel, none for a transparent one (R670). -/
def Display.texelColor (d : Display) : Texel → Option Color
  | .transparent => none
  | .index p => some (d.pal15 p.toNat)
  | .direct c => some c

/-- The candidate of background layer `n`, if present (R670). -/
def Display.bgCandidate (c : Config) (d : Display) (l x : Nat) (n : Bg) : Option Candidate :=
  if d.regs.bgEn n && (d.winMask l x).getLsbD n.num then
    (d.texelColor (Display.bgTexel c d n l x)).map fun color =>
      { layer := .bg n, prio := bgPriority (d.regs.bgcnt n), color := color, translucent := false }
  else none

/-- The sprite candidate, if present (R670): its colour is read at the render instant (45_sprite_renderer.md R595). -/
def Display.objCandidate (d : Display) (l x : Nat) : Option Candidate :=
  if d.regs.objEn && decide (d.objBufLine = some l) && (d.winMask l x).getLsbD 4 then
    (d.objPixelAt x).map fun p =>
      { layer := .obj, prio := p.prio.toNat, color := d.pal15 p.palidx.toNat, translucent := p.translucent }
  else none

/-- The backdrop candidate, always present (R670). -/
def Display.backdrop (d : Display) : Candidate :=
  { layer := .bd, prio := 4, color := d.pal15 0, translucent := false }

/-- The candidates of column `x` of line `l` (R670). -/
def Display.candidates (c : Config) (d : Display) (l x : Nat) : List Candidate :=
  Bg.all.filterMap (Display.bgCandidate c d l x) ++ (d.objCandidate l x).toList ++ [d.backdrop]

/-- The order key of a candidate (R671). -/
def Candidate.key (k : Candidate) : Nat × Nat × Nat :=
  match k.layer with
  | .obj => (k.prio, 0, 0)
  | .bg n => (k.prio, 1, n.num)
  | .bd => (4, 2, 0)

/-- The first key is in front of the second: lexicographic order (R671). -/
def keyBefore (a b : Nat × Nat × Nat) : Bool :=
  decide (a.1 < b.1 ∨ a.1 = b.1 ∧ (a.2.1 < b.2.1 ∨ a.2.1 = b.2.1 ∧ a.2.2 < b.2.2))

/-- Put a candidate at its place in a list ordered from front to back. -/
def insertCandidate (k : Candidate) : List Candidate → List Candidate
  | [] => [k]
  | k' :: rest =>
    if keyBefore k.key k'.key then k :: k' :: rest else k' :: insertCandidate k rest

/-- The candidates from front to back. -/
def frontToBack (ks : List Candidate) : List Candidate := ks.foldr insertCandidate []

/-- `TOP[x]` and `BOT[x]` (R672): the two front candidates; the bottom is none when the backdrop is on top. The
candidates always hold the backdrop, so the empty case does not occur. -/
def Display.topBottom (c : Config) (d : Display) (l x : Nat) : Candidate × Option Candidate :=
  match frontToBack (Display.candidates c d l x) with
  | [] => (d.backdrop, none)
  | top :: rest => (top, rest.head?)

/-- `tidx`, the target index of a candidate's layer (R673). -/
def Layer.target : Layer → Nat
  | .bg n => n.num
  | .obj => 4
  | .bd => 5

/-- `InT1` (R673). -/
def Regs.inT1 (r : Regs) (k : Candidate) : Bool := r.bldcnt.getLsbD k.layer.target

/-- `InT2` (R673): false for no candidate. -/
def Regs.inT2 (r : Regs) : Option Candidate → Bool
  | none => false
  | some k => r.bldcnt.getLsbD (8 + k.layer.target)

/-- The top colour blended with the bottom one if there is one. -/
def Regs.blendWith (r : Regs) (top : Candidate) (bottom : Option Candidate) : Color :=
  match bottom with
  | some b => alphaBlend r.eva r.evb top.color b.color
  | none => top.color

/-- The colour effect of a column (R674, R675). -/
def Regs.effect (r : Regs) (fx : Bool) (top : Candidate) (bottom : Option Candidate) : Color :=
  if top.layer = .obj ∧ top.translucent ∧ fx ∧ r.inT2 bottom then r.blendWith top bottom
  else if fx ∧ r.inT1 top then
    match r.blendEffect with
    | 0 => top.color
    | 1 => if r.inT2 bottom then r.blendWith top bottom else top.color
    | 2 => brighten r.evy top.color
    | _ => darken r.evy top.color
  else top.color

/-- `Composite(l, x)` (R680). -/
def Display.composite (c : Config) (d : Display) (l x : Nat) : Color :=
  let tb := Display.topBottom c d l x
  d.regs.effect ((d.winMask l x).getLsbD 5) tb.1 tb.2

end Sys2Proof.Machine
end

