-- ==== Sys2Proof/Machine/Framebuffer.lean ====
section
/-! DEFINITION. The framebuffer multiplexer: the source of an output row (48_framebuffer_mux.md R720, R721). -/

namespace Sys2Proof.Machine

/-- The pixel of column `x` of line `l` (R720): the blank colour under forced blank, else the composite. -/
def Display.rowPixel (c : Config) (d : Display) (l x : Nat) : Color :=
  if d.regs.forcedBlank then c.blankColor else Display.composite c d l x

/-- `FramebufferRow(l)` (R720). -/
def Display.framebufferRow (c : Config) (d : Display) (l : Nat) : List Color :=
  (List.range c.screenW).map (Display.rowPixel c d l)

end Sys2Proof.Machine
end

