-- ==== Sys2Proof/Machine/Timing.lean ====
section
/-! DEFINITION. The scanline timing state machine (41_scanline_timing_fsm.md). -/

namespace Sys2Proof.Machine

/-- `EnterHBlank()` (R403, R404). The two other phases cannot occur here (R400): nothing is then entered (log entry
11). -/
def State.enterHBlank (s : State) : State :=
  match s.phase with
  | .drawing =>
    ({ s with phase := .hblank }.emit .dmaHblank).emitIrq .irqHblank fun d => d.regs.hblankIrqEn
  | .vblank => { s with phase := .vblankHblank }.emitIrq .irqHblank fun d => d.regs.hblankIrqEn
  | .hblank => s
  | .vblankHblank => s

/-- `VCountCheck()` (R410). -/
def State.vcountCheck (s : State) : State :=
  s.emitIrq .irqVcount fun d => decide (s.vcount = d.regs.lyc) && d.regs.vcountIrqEn

/-- What entering vblank does to a display instance: frame counter, swap, frame ready, affine reload, in this order
(R407). -/
def Display.vblankEntry (d : Display) : Display :=
  let counted := { d with frameCount := d.frameCount + 1 }
  let swapped := counted.swap
  let ready := { swapped with frameReady := true }
  ready.reloadAffine

/-- `VBlankStart()` (R407). -/
def State.vblankStart (s : State) : State :=
  ((s.emit .dmaVblank).emitIrq .irqVblank fun d => d.regs.vblankIrqEn).mapDisplays Display.vblankEntry

/-- The background modes that a render instant refuses (R412). -/
def Regs.invalidBgMode (r : Regs) : Bool := decide (6 ≤ r.bgMode)

/-- `RenderLine(l)` (R412): refused in DUAL (60_exceptions.md R757) and in modes 6 and 7, else the row is written
into the back buffer. -/
def State.renderLine (s : State) (l : Nat) : State :=
  match s.config.variant with
  | .dual => s.refuse .dualUnmodelled
  | .single =>
    if s.disp0.regs.invalidBgMode then s.refuse .invalidBgMode
    else { s with disp0 := s.disp0.writeRow l (Display.framebufferRow s.config s.disp0 l) }

/-- `SpritePrerender(t)` of every display instance (45_sprite_renderer.md R580). -/
def State.spritePrerender (s : State) (t : Nat) : State :=
  s.mapDisplays (Display.spritePrerender s.config t)

/-- The sprites of line 0 are rendered just before line 0 itself, in the alternative reading of R409. -/
def State.wrapPrerender (s : State) (l : Nat) : State :=
  if l = 0 ∧ s.config.objLine0Prerender = .wrap then s.spritePrerender 0 else s

/-- The part of `VisibleLineStart(l)` that follows the render (R406): it does not run after a refusal (60_exceptions.md
R755). -/
def State.afterRender (s : State) (l : Nat) : State :=
  if s.refused.isSome then s
  else
    let s := s.mapDisplays Display.affineStep
    if l + 1 < s.config.screenH then s.spritePrerender (l + 1) else s

/-- `VisibleLineStart(l)` (R406). -/
def State.visibleLineStart (s : State) (l : Nat) : State :=
  ((s.wrapPrerender l).renderLine l).afterRender l

/-- The line-0 sprite pre-render at the entry into the last line of the frame (R405, R409). -/
def State.lastLinePrerender (s : State) : State :=
  if s.vcount + 1 = s.config.totalLines ∧ s.config.objLine0Prerender = .lastLineStart then s.spritePrerender 0
  else s

/-- The entry actions of the line `VCOUNT` now names (R405). -/
def State.enterLine (s : State) : State :=
  if s.vcount < s.config.screenH then ({ s with phase := .drawing }.vcountCheck).visibleLineStart s.vcount
  else if s.vcount = s.config.screenH then ({ s with phase := .vblank }.vblankStart).vcountCheck
  else ({ s with phase := .vblank }.vcountCheck).lastLinePrerender

/-- `EndLine()` (R405). -/
def State.endLine (s : State) : State :=
  { s with vcount := (s.vcount + 1) % s.config.totalLines }.enterLine

/-- The hblank entry of a tick, if it falls on it (R402). -/
def State.hblankPart (s : State) : State :=
  if s.lineTicks = s.config.hDrawTicks then s.enterHBlank else s

/-- The line end of a tick, if it falls on it (R402). -/
def State.lineEndPart (s : State) : State :=
  if s.lineTicks = s.config.hTotal then { s with lineTicks := 0 }.endLine else s

/-- `Step1()`, one tick (R402). -/
def State.step1 (s : State) : State :=
  ({ s with lineTicks := s.lineTicks + 1 }.hblankPart).lineEndPart

/-- `n` ticks (R401), stopping at the point of a refusal (60_exceptions.md R755). -/
def State.ticks : Nat → State → State
  | 0, s => s
  | n + 1, s => if s.refused.isSome then s else State.ticks n s.step1

end Sys2Proof.Machine
end

