-- ==== Sys2Proof/Machine/Transactions.lean ====
section
/-! DEFINITION. The meanings of the scheduler's, the host's and the environment's transactions, and of the words R210
refuses (30_encoding.md R206-R210; 40_register_port.md R330-R340; 41_scanline_timing_fsm.md R401). -/

namespace Sys2Proof.Machine

/-- `TICK n`: `n` single-tick steps (R401). It addresses every display instance at once, so no limit applies. -/
def execTick (n : BitVec 29) (s : State) : Host.Outcome State Fault Refusal :=
  .next (s.transact true (State.ticks n.toNat))

/-- `ACK`: the host clears the frame-ready flag (R330). -/
def execAck (disp : BitVec 1) (s : State) : Host.Outcome State Fault Refusal :=
  .next (s.transact (s.dispExists disp) fun s => s.modifyDisplay disp fun d => { d with frameReady := false })

/-- The shared form of every `MEMWR8`: store a byte below the size of the space (R340, R210). -/
def State.memWrite (s : State) (sp : Space) (disp : BitVec 1) (addr : BitVec 17) (data : Byte) : State :=
  s.transact (s.dispExists disp && decide (addr.toNat < s.config.spaceBytes sp)) fun s =>
    s.modifyDisplay disp fun d => d.writeByte sp addr.toNat data

/-- `MEMWR8 PAL` (R340). -/
def execMemwr8Pal (disp : BitVec 1) (addr : BitVec 17) (data : Byte) (s : State) : Host.Outcome State Fault Refusal :=
  .next (s.memWrite .pal disp addr data)

/-- `MEMWR8 VRAM` (R340). -/
def execMemwr8Vram (disp : BitVec 1) (addr : BitVec 17) (data : Byte) (s : State) : Host.Outcome State Fault Refusal :=
  .next (s.memWrite .vram disp addr data)

/-- `MEMWR8 OAM` (R340). -/
def execMemwr8Oam (disp : BitVec 1) (addr : BitVec 17) (data : Byte) (s : State) : Host.Outcome State Fault Refusal :=
  .next (s.memWrite .oam disp addr data)

/-- `RDPIX x, y`: a pixel of the front buffer (R331), within the screen (R210). -/
def execRdpix (disp : BitVec 1) (y x : BitVec 8) (s : State) : Host.Outcome State Fault Refusal :=
  .next (s.transactRead
    (s.dispExists disp && decide (x.toNat < s.config.screenW) && decide (y.toNat < s.config.screenH))
    State.outputDrawPixel fun s => s.output (.pixel ((s.display disp).frontPixel y.toNat x.toNat)))

/-- The shared form of every word R210 refuses outright: `BadPortWord`, unless the mark is set already (R755). -/
def State.badWord (s : State) : State := s.transact false id

/-- `RD8` with an offset at or above 0x060 (R210). -/
def execRd8OffOutOfRange (_disp : BitVec 1) (_off : BitVec 12) (s : State) : Host.Outcome State Fault Refusal :=
  .next s.badWord

/-- `WR8` with an offset at or above 0x060 (R210). -/
def execWr8OffOutOfRange (_disp : BitVec 1) (_off : BitVec 12) (_data : Byte) (s : State) : Host.Outcome State Fault Refusal :=
  .next s.badWord

/-- `MEMWR8` to the reserved space (R210). -/
def execMemwr8ReservedSpace (_payload : BitVec 27) (s : State) : Host.Outcome State Fault Refusal :=
  .next s.badWord

/-- A word of the reserved kind 0b110 (R210). -/
def execReservedKind6 (_payload : BitVec 29) (s : State) : Host.Outcome State Fault Refusal :=
  .next s.badWord

/-- A word of the reserved kind 0b111 (R210). -/
def execReservedKind7 (_payload : BitVec 29) (s : State) : Host.Outcome State Fault Refusal :=
  .next s.badWord

end Sys2Proof.Machine
end

