-- ==== Sys2Proof/Machine/Dispatch.lean ====
section
/-! DEFINITION. The dispatch: one arm per transaction, each one call of its meaning. -/

namespace Sys2Proof.Machine

def exec (i : Instr) (s : State) : Host.Outcome State Fault Refusal :=
  match i with
  | .rd8Dispcnt disp k => Sys2Proof.Machine.execRd8Dispcnt disp k s
  | .wr8Dispcnt disp k data => Sys2Proof.Machine.execWr8Dispcnt disp k data s
  | .rd8Greenswap disp k => Sys2Proof.Machine.execRd8Greenswap disp k s
  | .wr8Greenswap disp k data => Sys2Proof.Machine.execWr8Greenswap disp k data s
  | .rd8Dispstat disp k => Sys2Proof.Machine.execRd8Dispstat disp k s
  | .wr8Dispstat disp k data => Sys2Proof.Machine.execWr8Dispstat disp k data s
  | .rd8Vcount disp k => Sys2Proof.Machine.execRd8Vcount disp k s
  | .wr8Vcount disp k data => Sys2Proof.Machine.execWr8Vcount disp k data s
  | .rd8Bg0cnt disp k => Sys2Proof.Machine.execRd8Bg0cnt disp k s
  | .wr8Bg0cnt disp k data => Sys2Proof.Machine.execWr8Bg0cnt disp k data s
  | .rd8Bg1cnt disp k => Sys2Proof.Machine.execRd8Bg1cnt disp k s
  | .wr8Bg1cnt disp k data => Sys2Proof.Machine.execWr8Bg1cnt disp k data s
  | .rd8Bg2cnt disp k => Sys2Proof.Machine.execRd8Bg2cnt disp k s
  | .wr8Bg2cnt disp k data => Sys2Proof.Machine.execWr8Bg2cnt disp k data s
  | .rd8Bg3cnt disp k => Sys2Proof.Machine.execRd8Bg3cnt disp k s
  | .wr8Bg3cnt disp k data => Sys2Proof.Machine.execWr8Bg3cnt disp k data s
  | .rd8Bg0hofs disp k => Sys2Proof.Machine.execRd8Bg0hofs disp k s
  | .wr8Bg0hofs disp k data => Sys2Proof.Machine.execWr8Bg0hofs disp k data s
  | .rd8Bg0vofs disp k => Sys2Proof.Machine.execRd8Bg0vofs disp k s
  | .wr8Bg0vofs disp k data => Sys2Proof.Machine.execWr8Bg0vofs disp k data s
  | .rd8Bg1hofs disp k => Sys2Proof.Machine.execRd8Bg1hofs disp k s
  | .wr8Bg1hofs disp k data => Sys2Proof.Machine.execWr8Bg1hofs disp k data s
  | .rd8Bg1vofs disp k => Sys2Proof.Machine.execRd8Bg1vofs disp k s
  | .wr8Bg1vofs disp k data => Sys2Proof.Machine.execWr8Bg1vofs disp k data s
  | .rd8Bg2hofs disp k => Sys2Proof.Machine.execRd8Bg2hofs disp k s
  | .wr8Bg2hofs disp k data => Sys2Proof.Machine.execWr8Bg2hofs disp k data s
  | .rd8Bg2vofs disp k => Sys2Proof.Machine.execRd8Bg2vofs disp k s
  | .wr8Bg2vofs disp k data => Sys2Proof.Machine.execWr8Bg2vofs disp k data s
  | .rd8Bg3hofs disp k => Sys2Proof.Machine.execRd8Bg3hofs disp k s
  | .wr8Bg3hofs disp k data => Sys2Proof.Machine.execWr8Bg3hofs disp k data s
  | .rd8Bg3vofs disp k => Sys2Proof.Machine.execRd8Bg3vofs disp k s
  | .wr8Bg3vofs disp k data => Sys2Proof.Machine.execWr8Bg3vofs disp k data s
  | .rd8Bg2pa disp k => Sys2Proof.Machine.execRd8Bg2pa disp k s
  | .wr8Bg2pa disp k data => Sys2Proof.Machine.execWr8Bg2pa disp k data s
  | .rd8Bg2pb disp k => Sys2Proof.Machine.execRd8Bg2pb disp k s
  | .wr8Bg2pb disp k data => Sys2Proof.Machine.execWr8Bg2pb disp k data s
  | .rd8Bg2pc disp k => Sys2Proof.Machine.execRd8Bg2pc disp k s
  | .wr8Bg2pc disp k data => Sys2Proof.Machine.execWr8Bg2pc disp k data s
  | .rd8Bg2pd disp k => Sys2Proof.Machine.execRd8Bg2pd disp k s
  | .wr8Bg2pd disp k data => Sys2Proof.Machine.execWr8Bg2pd disp k data s
  | .rd8Bg2x disp k => Sys2Proof.Machine.execRd8Bg2x disp k s
  | .wr8Bg2x disp k data => Sys2Proof.Machine.execWr8Bg2x disp k data s
  | .rd8Bg2y disp k => Sys2Proof.Machine.execRd8Bg2y disp k s
  | .wr8Bg2y disp k data => Sys2Proof.Machine.execWr8Bg2y disp k data s
  | .rd8Bg3pa disp k => Sys2Proof.Machine.execRd8Bg3pa disp k s
  | .wr8Bg3pa disp k data => Sys2Proof.Machine.execWr8Bg3pa disp k data s
  | .rd8Bg3pb disp k => Sys2Proof.Machine.execRd8Bg3pb disp k s
  | .wr8Bg3pb disp k data => Sys2Proof.Machine.execWr8Bg3pb disp k data s
  | .rd8Bg3pc disp k => Sys2Proof.Machine.execRd8Bg3pc disp k s
  | .wr8Bg3pc disp k data => Sys2Proof.Machine.execWr8Bg3pc disp k data s
  | .rd8Bg3pd disp k => Sys2Proof.Machine.execRd8Bg3pd disp k s
  | .wr8Bg3pd disp k data => Sys2Proof.Machine.execWr8Bg3pd disp k data s
  | .rd8Bg3x disp k => Sys2Proof.Machine.execRd8Bg3x disp k s
  | .wr8Bg3x disp k data => Sys2Proof.Machine.execWr8Bg3x disp k data s
  | .rd8Bg3y disp k => Sys2Proof.Machine.execRd8Bg3y disp k s
  | .wr8Bg3y disp k data => Sys2Proof.Machine.execWr8Bg3y disp k data s
  | .rd8Win0h disp k => Sys2Proof.Machine.execRd8Win0h disp k s
  | .wr8Win0h disp k data => Sys2Proof.Machine.execWr8Win0h disp k data s
  | .rd8Win1h disp k => Sys2Proof.Machine.execRd8Win1h disp k s
  | .wr8Win1h disp k data => Sys2Proof.Machine.execWr8Win1h disp k data s
  | .rd8Win0v disp k => Sys2Proof.Machine.execRd8Win0v disp k s
  | .wr8Win0v disp k data => Sys2Proof.Machine.execWr8Win0v disp k data s
  | .rd8Win1v disp k => Sys2Proof.Machine.execRd8Win1v disp k s
  | .wr8Win1v disp k data => Sys2Proof.Machine.execWr8Win1v disp k data s
  | .rd8Winin disp k => Sys2Proof.Machine.execRd8Winin disp k s
  | .wr8Winin disp k data => Sys2Proof.Machine.execWr8Winin disp k data s
  | .rd8Winout disp k => Sys2Proof.Machine.execRd8Winout disp k s
  | .wr8Winout disp k data => Sys2Proof.Machine.execWr8Winout disp k data s
  | .rd8Mosaic disp k => Sys2Proof.Machine.execRd8Mosaic disp k s
  | .wr8Mosaic disp k data => Sys2Proof.Machine.execWr8Mosaic disp k data s
  | .rd8Unused04e disp k => Sys2Proof.Machine.execRd8Unused04e disp k s
  | .wr8Unused04e disp k data => Sys2Proof.Machine.execWr8Unused04e disp k data s
  | .rd8Bldcnt disp k => Sys2Proof.Machine.execRd8Bldcnt disp k s
  | .wr8Bldcnt disp k data => Sys2Proof.Machine.execWr8Bldcnt disp k data s
  | .rd8Bldalpha disp k => Sys2Proof.Machine.execRd8Bldalpha disp k s
  | .wr8Bldalpha disp k data => Sys2Proof.Machine.execWr8Bldalpha disp k data s
  | .rd8Bldy disp k => Sys2Proof.Machine.execRd8Bldy disp k s
  | .wr8Bldy disp k data => Sys2Proof.Machine.execWr8Bldy disp k data s
  | .rd8Unused056 disp k => Sys2Proof.Machine.execRd8Unused056 disp k s
  | .wr8Unused056 disp k data => Sys2Proof.Machine.execWr8Unused056 disp k data s
  | .rd8Unused058 disp k => Sys2Proof.Machine.execRd8Unused058 disp k s
  | .wr8Unused058 disp k data => Sys2Proof.Machine.execWr8Unused058 disp k data s
  | .rd8OffOutOfRange disp off => Sys2Proof.Machine.execRd8OffOutOfRange disp off s
  | .wr8OffOutOfRange disp off data => Sys2Proof.Machine.execWr8OffOutOfRange disp off data s
  | .tick n => Sys2Proof.Machine.execTick n s
  | .ack disp => Sys2Proof.Machine.execAck disp s
  | .memwr8Pal disp addr data => Sys2Proof.Machine.execMemwr8Pal disp addr data s
  | .memwr8Vram disp addr data => Sys2Proof.Machine.execMemwr8Vram disp addr data s
  | .memwr8Oam disp addr data => Sys2Proof.Machine.execMemwr8Oam disp addr data s
  | .memwr8ReservedSpace payload => Sys2Proof.Machine.execMemwr8ReservedSpace payload s
  | .rdpix disp y x => Sys2Proof.Machine.execRdpix disp y x s
  | .reservedKind6 payload => Sys2Proof.Machine.execReservedKind6 payload s
  | .reservedKind7 payload => Sys2Proof.Machine.execReservedKind7 payload s

end Sys2Proof.Machine
end

