-- ==== Sys2Proof/Machine/Step.lean ====
section
/-! DEFINITION. One step of the machine: take the next pending port word, decode it and run it. -/

namespace Sys2Proof.Machine

/-- One step. The block executes no program (00_scope.md R1): its steps are the transactions applied to it, one at a
time, in order (20_memory.md R158). With none pending nothing happens (log entry 2). A word that decodes to no
transaction is refused (30_encoding.md R210). -/
def step (s : State) : Host.Outcome State Fault Refusal :=
  match s.pending with
  | [] => .next s
  | w :: rest =>
    let s' := { s with pending := rest }
    match decode w with
    | .ok i => exec i s'
    | .error _ => .next s'.badWord

/-- The state with one more port word, placed where `step` takes its next one: before the pending words. -/
def State.withFetchWord (s : State) (nbits w : Nat) : State :=
  { s with pending := tableWord nbits w :: s.pending }

end Sys2Proof.Machine
end

