-- ==== Sys2Proof/Safety.lean ====
section
/-! DEFINITION. What counts as a safe state and a safe run, and the invariants of the machine, in the terms claims use. -/

namespace Sys2Proof

open Sys2Proof.Machine

/-- No refusal is recorded (60_exceptions.md R755: a claim about the block takes this as a premise). -/
abbrev Safe (s : State) : Prop := s.refused = none

/-- After `n` steps the machine is in a state with no refusal recorded. The mark is absorbing, so no step before
recorded one either. -/
def SafeRun (n : Nat) (s : State) : Prop :=
  ∃ t, core.run n s = .next t ∧ Safe t

/-- A machine of the admitted variant with no refusal recorded: what a transaction needs to have its effect. -/
abbrev Ready (s : State) : Prop := s.refused = none ∧ s.config.variant = .single

/-- The phase that the table of 41_scanline_timing_fsm.md R400 selects. -/
def phaseAt (visible blanking : Bool) : Phase :=
  match visible, blanking with
  | true, false => .drawing
  | true, true => .hblank
  | false, false => .vblank
  | false, true => .vblankHblank

/-- The position is a legal one of the admitted configuration, and the phase is its row of R400's table. -/
def PositionInv (s : State) : Prop :=
  s.config = Config.single ∧ s.vcount < 228 ∧ s.lineTicks < 1232 ∧
    s.phase = phaseAt (decide (s.vcount < 160)) (decide (960 ≤ s.lineTicks))

/-- The position as one number: the ticks since the start of the frame (R415). -/
def frameTick (s : State) : Nat := s.vcount * 1232 + s.lineTicks

/-- No stored register holds a bit outside its write mask (40_register_port.md R300; the masks of 10_state.md). -/
def MaskedRegs (r : Regs) : Prop :=
  r.dispcnt &&& 0xFFF7 = r.dispcnt ∧ r.dispstat &&& 0xFF38 = r.dispstat ∧
  r.bg0cnt &&& 0xDFFF = r.bg0cnt ∧ r.bg1cnt &&& 0xDFFF = r.bg1cnt ∧
  r.bg0hofs &&& 0x01FF = r.bg0hofs ∧ r.bg0vofs &&& 0x01FF = r.bg0vofs ∧
  r.bg1hofs &&& 0x01FF = r.bg1hofs ∧ r.bg1vofs &&& 0x01FF = r.bg1vofs ∧
  r.bg2hofs &&& 0x01FF = r.bg2hofs ∧ r.bg2vofs &&& 0x01FF = r.bg2vofs ∧
  r.bg3hofs &&& 0x01FF = r.bg3hofs ∧ r.bg3vofs &&& 0x01FF = r.bg3vofs ∧
  r.bg2x &&& 0x0FFFFFFF = r.bg2x ∧ r.bg2y &&& 0x0FFFFFFF = r.bg2y ∧
  r.bg3x &&& 0x0FFFFFFF = r.bg3x ∧ r.bg3y &&& 0x0FFFFFFF = r.bg3y ∧
  r.winin &&& 0x3F3F = r.winin ∧ r.winout &&& 0x3F3F = r.winout ∧
  r.bldcnt &&& 0x3FFF = r.bldcnt ∧ r.bldalpha &&& 0x1F1F = r.bldalpha ∧ r.bldy &&& 0x001F = r.bldy

/-- Both display instances hold masked registers. -/
def MaskInv (s : State) : Prop := MaskedRegs s.disp0.regs ∧ MaskedRegs s.disp1.regs

/-- The memories and output buffers of a display instance are in canonical form. -/
def CanonicalDisplay (c : Config) (d : Display) : Prop :=
  (∀ sp, Memory.wf (c.spaceBytes sp) (d.memory sp) = true) ∧
    Image.wf c.screenH d.buf0 = true ∧ Image.wf c.screenH d.buf1 = true

/-- Every memory and output buffer of the machine is in canonical form. -/
def CanonicalInv (s : State) : Prop := CanonicalDisplay s.config s.disp0 ∧ CanonicalDisplay s.config s.disp1

/-- The sprite line buffers and every written row of a display instance have `SCREEN_W` entries. -/
def ShapedDisplay (c : Config) (d : Display) : Prop :=
  d.objBuf.length = c.screenW ∧ d.objWin.length = c.screenW ∧
    (∀ p ∈ d.buf0, p.2.length = c.screenW) ∧ (∀ p ∈ d.buf1, p.2.length = c.screenW)

/-- Every line buffer and written row of the machine has `SCREEN_W` entries. -/
def ShapeInv (s : State) : Prop := ShapedDisplay s.config s.disp0 ∧ ShapedDisplay s.config s.disp1

end Sys2Proof
end

