-- ==== Sys2Proof/Certificates/Slice0/Obligations.lean ====
section
/-! DEFINITION. The statements for the provers. Each docstring names the rules of spec/ the statement formalises. -/

open Sys2Proof Sys2Proof.Machine

namespace Sys2Proof.Claims

/-- Byte `k` of a 16-bit value (20_memory.md R153). -/
def halfByte (v : Half) (k : BitVec 1) : Byte := if k = 0 then v.extractLsb' 0 8 else v.extractLsb' 8 8

/-- The byte write of 40_register_port.md R300 on a 16-bit register: byte `k` of `old` replaced, then masked. -/
def halfWrite (old : Half) (k : BitVec 1) (data : Byte) (wmask : Half) : Half :=
  (if k = 0 then old.extractLsb' 8 8 ++ data else data ++ old.extractLsb' 0 8) &&& wmask

/-- The byte write of R300 on a 32-bit register. -/
def wordWrite (old : BitVec 32) (k : BitVec 2) (data : Byte) (wmask : BitVec 32) : BitVec 32 :=
  (match k.toNat with
    | 0 => old.extractLsb' 8 24 ++ data
    | 1 => old.extractLsb' 16 16 ++ (data ++ old.extractLsb' 0 8)
    | 2 => old.extractLsb' 24 8 ++ (data ++ old.extractLsb' 0 16)
    | _ => data ++ old.extractLsb' 0 24) &&& wmask

/-- The state after a read that returns a byte and does nothing else. -/
def readsByte (s : State) (b : Byte) : State := { s with outReads := s.outReads ++ [.byte b] }

/-- The state after a read that returns a draw of 8 bits: the free value for the current count of draws. -/
def drawsByte (s : State) : State :=
  { s with outReads := s.outReads ++ [.byte (Config.drawByte s.draws)], draws := s.draws + 1 }

/-- The state after a read that returns a draw of 15 bits. -/
def drawsPixel (s : State) : State :=
  { s with outReads := s.outReads ++ [.pixel (Config.drawPixel s.draws)], draws := s.draws + 1 }

/-- The state with the registers of display instance 0 replaced. -/
def withRegs (s : State) (r : Regs) : State := { s with disp0 := { s.disp0 with regs := r } }

/-- One interrupt notification if its enable bit is set. -/
def irqIf (enabled : Bool) (e : Event) : List Event := if enabled then [e] else []

/-- The state at the entry into line `l` of the frame, before the line's own actions on the display: the position, the
phase and the notifications of the entry (41_scanline_timing_fsm.md R405, R410). -/
def atLine (s : State) (l : Nat) (p : Phase) (before : List Event) : State :=
  { s with
    lineTicks := 0
    vcount := l
    phase := p
    outEvents := s.outEvents ++ before ++ irqIf (decide (l = s.disp0.regs.lyc) && s.disp0.regs.vcountIrqEn) .irqVcount }

/-- The pixel that entry `i` of the attribute table would put at column `col` of line `t`, if any, for an entry that
draws (mode 0 or 1): its box covers the line and, counting from its left column modulo 512, the column. -/
def entryPixel (d : Display) (t i col : Nat) : Option ObjPixel :=
  let a := d.objAttr i
  let dx := (col + 512 - a.x) % 512
  if a.suppressed d.regs.bgMode = false ∧ a.covers t ∧ a.mode ≠ 2 ∧ dx < a.box.1 then
    (Display.objColumn Config.single d a t dx).map fun p =>
      { palidx := p, color := d.pal15 p.toNat, prio := a.priority, translucent := decide (a.mode = 1) }
  else none

/-- Entry `i` marks the object window at column `col` of line `t`. -/
def entryWindow (d : Display) (t i col : Nat) : Prop :=
  let a := d.objAttr i
  let dx := (col + 512 - a.x) % 512
  a.suppressed d.regs.bgMode = false ∧ a.covers t = true ∧ a.mode = 2 ∧ dx < a.box.1 ∧
    (Display.objColumn Config.single d a t dx).isSome = true

/-- The two display instances hold the same registers and internal reference points, and the same bytes of VRAM at the
addresses that `inside` admits. -/
def SameVideo (d d' : Display) (inside : Nat → Prop) : Prop :=
  d.regs = d'.regs ∧ d.bg2xInt = d'.bg2xInt ∧ d.bg2yInt = d'.bg2yInt ∧ d.bg3xInt = d'.bg3xInt ∧
    d.bg3yInt = d'.bg3yInt ∧ ∀ a, inside a → d.readByte .vram a = d'.readByte .vram a

/-- `Inside(lo, hi, v)` as 46_window_mask_unit.md R641 writes it: `lo` inclusive, `hi` exclusive, wrapping. -/
def between (lo hi v : Nat) : Prop := if lo ≤ hi then lo ≤ v ∧ v < hi else v ≥ lo ∨ v < hi

/-- A rectangle hit in register bits (R642): the enable bit `en` of `DISPCNT`, the column between the bounds of `h`,
the line modulo 256 between the bounds of `v`. The high byte of `h` and `v` is the inclusive bound (10_state.md R59,
R60). -/
def rectHit (r : Regs) (en : Nat) (h v : Half) (x l : Nat) : Prop :=
  r.dispcnt.getLsbD en = true ∧
    between (h.extractLsb' 8 8).toNat (h.extractLsb' 0 8).toNat x ∧
    between (v.extractLsb' 8 8).toNat (v.extractLsb' 0 8).toNat (l % 256)

/-- An object-window hit as line `l` sees it: enabled, the buffer built for this line, the column marked (R640, R643).
-/
def objHit (d : Display) (l x : Nat) : Prop :=
  d.regs.dispcnt.getLsbD 15 = true ∧ d.objBufLine = some l ∧ d.objWin.getD x false = true

/-- The colour of palette entry `i`: the low 15 bits of the two bytes at `2 * i` (00_scope.md R11). -/
def palColor (d : Display) (i : Nat) : Color :=
  (d.readByte .pal (2 * i + 1) ++ d.readByte .pal (2 * i)).setWidth 15

/-- The texel of layer `n` by the mode table (30_encoding.md R225), one column of the table after the other. A layer
that the mode does not have shows nothing. -/
def tableTexel (c : Config) (d : Display) (n : Bg) (l x : Nat) : Texel :=
  match n, (d.regs.dispcnt.extractLsb' 0 3).toNat with
  | .bg0, 0 | .bg0, 1 => Display.textTexel c d .bg0 l x
  | .bg1, 0 | .bg1, 1 => Display.textTexel c d .bg1 l x
  | .bg2, 0 => Display.textTexel c d .bg2 l x
  | .bg2, 1 | .bg2, 2 => Display.affineTexel c d .bg2 l x
  | .bg2, 3 => d.bitmapTexel .mode3 l x
  | .bg2, 4 => d.bitmapTexel .mode4 l x
  | .bg2, 5 => d.bitmapTexel .mode5 l x
  | .bg3, 0 => Display.textTexel c d .bg3 l x
  | .bg3, 2 => Display.affineTexel c d .bg3 l x
  | _, _ => .transparent

/-- The texel is opaque and its colour is `color` (47_priority_blend_compositor.md R670). -/
def showsColor (d : Display) (t : Texel) (color : Color) : Prop :=
  match t with
  | .transparent => False
  | .index p => color = palColor d p.toNat
  | .direct c => color = c

/-- The four background layers with their index and their control register. -/
def bgLayers (r : Regs) : List (Bg × Nat × Half) :=
  [(.bg0, 0, r.bg0cnt), (.bg1, 1, r.bg1cnt), (.bg2, 2, r.bg2cnt), (.bg3, 3, r.bg3cnt)]

/-- The table of candidates of column `x` of line `l` (R670), row by row. -/
def isCandidate (c : Config) (d : Display) (l x : Nat) (k : Candidate) : Prop :=
  (∃ b ∈ bgLayers d.regs, d.regs.dispcnt.getLsbD (8 + b.2.1) = true ∧ (d.winMask l x).getLsbD b.2.1 = true ∧
    ∃ color, showsColor d (tableTexel c d b.1 l x) color ∧
      k = { layer := .bg b.1, prio := (b.2.2.extractLsb' 0 2).toNat, color := color, translucent := false }) ∨
  (d.regs.dispcnt.getLsbD 12 = true ∧ d.objBufLine = some l ∧ (d.winMask l x).getLsbD 4 = true ∧
    ∃ p, d.objPixelAt x = some p ∧
      k = { layer := .obj, prio := p.prio.toNat, color := palColor d p.palidx.toNat, translucent := p.translucent }) ∨
  k = { layer := .bd, prio := 4, color := palColor d 0, translucent := false }

/-- The second and third components of a candidate's order key (R671). -/
def keyTail : Layer → Nat × Nat
  | .obj => (0, 0)
  | .bg .bg0 => (1, 0)
  | .bg .bg1 => (1, 1)
  | .bg .bg2 => (1, 2)
  | .bg .bg3 => (1, 3)
  | .bd => (2, 0)

/-- Candidate `a` is in front of `b`: its key is lexicographically smaller (R671). -/
def inFront (a b : Candidate) : Prop :=
  a.prio < b.prio ∨ a.prio = b.prio ∧ ((keyTail a.layer).1 < (keyTail b.layer).1 ∨
    (keyTail a.layer).1 = (keyTail b.layer).1 ∧ (keyTail a.layer).2 < (keyTail b.layer).2)

/-- `tidx` (R673): the layer index, 4 for sprites, 5 for the backdrop. -/
def targetIndex : Layer → Nat
  | .bg .bg0 => 0
  | .bg .bg1 => 1
  | .bg .bg2 => 2
  | .bg .bg3 => 3
  | .obj => 4
  | .bd => 5

/-- `InT1` in register bits (R673). -/
def firstTarget (r : Regs) (k : Candidate) : Prop := r.bldcnt.getLsbD (targetIndex k.layer) = true

/-- `InT2` in register bits (R673), of a bottom that may be absent. -/
def secondTarget (r : Regs) (bottom : Option Candidate) : Prop :=
  ∃ b, bottom = some b ∧ r.bldcnt.getLsbD (8 + targetIndex b.layer) = true

/-- A translucent sprite on top of a second target (R675). -/
def forcedBlend (r : Regs) (top : Candidate) (bottom : Option Candidate) : Prop :=
  top.layer = .obj ∧ top.translucent = true ∧ secondTarget r bottom

/-- How many whole frames have reached vblank by tick `x` of the first frame on. -/
def vblanksBy (x : Nat) : Nat := (x + 83776) / 280896

end Sys2Proof.Claims

open Sys2Proof.Claims

/-! ### Encoding -/

/-- Every well-formed transaction decodes back from its port word (R203-R209, R212, R213). -/
def Obligations.DecodeOfEncode : Prop :=
  ∀ i : Instr, i.wellFormed = true → decode (encode i) = .ok i

/-- A port word that decodes is the word of the transaction it decodes to, which is well-formed: no bit is dropped
(R203-R209, R232). -/
def Obligations.EncodeOfDecode : Prop :=
  ∀ (w : PortWord) (i : Instr), decode w = .ok i → i.wellFormed = true ∧ encode i = w

/-- A few words written out from the formats decode to what they stand for, or are rejected by name (R203-R210). -/
def Obligations.SampleWordsDecode : Prop :=
  decode 0x0000005F = .ok (.rd8Unused058 0 7) ∧ decode 0x20FF0000 = .ok (.wr8Dispcnt 0 0 0xFF) ∧
  decode 0x2008002B = .ok (.wr8Bg2x 0 3 0x08) ∧ decode 0x5FFFFFFF = .ok (.tick 0x1FFFFFFF) ∧
  decode 0x60001000 = .ok (.ack 1) ∧ decode 0x897FFF00 = .ok (.memwr8Vram 0 0x17FFF 0) ∧
  decode 0x9003FF00 = .ok (.memwr8Oam 0 0x3FF 0) ∧ decode 0xA0009FEF = .ok (.rdpix 0 159 239) ∧
  decode 0x00000060 = .ok (.rd8OffOutOfRange 0 0x060) ∧ decode 0x98000000 = .ok (.memwr8ReservedSpace 0) ∧
  decode 0xC0000000 = .ok (.reservedKind6 0) ∧ decode 0x00002000 = .error .rd8MustBeZero ∧
  decode 0x21000000 = .error .wr8MustBeZero ∧ decode 0x60000001 = .error .ackMustBeZero ∧
  decode 0x82000000 = .error .memwr8MustBeZero ∧ decode 0xA0020000 = .error .rdpixMustBeZero

/-- A step runs the decoded transaction: with a word pending it takes the word and runs what it decodes to; with none
pending it leaves the machine as it is (log entries 1 and 2 of the model: how words arrive is the model's choice). -/
def Obligations.StepRunsDecodedInstr : Prop :=
  (∀ (s : State) (w : PortWord) (rest : List PortWord) (i : Instr), s.pending = w :: rest → decode w = .ok i →
    step s = exec i { s with pending := rest }) ∧
  (∀ (s : State) (w : PortWord) (rest : List PortWord) (e : DecodeError), s.pending = w :: rest →
    decode w = .error e → step s =
      .next { s with pending := rest, refused := if s.refused = none then some .badPortWord else s.refused }) ∧
  (∀ s : State, s.pending = [] → step s = .next s) ∧
  (∀ (s : State) (nbits w : Nat) (i : Instr), decodeTableWord nbits w = some i →
    step (s.withFetchWord nbits w) = exec i s)

/-- R210: the words it lists are refused with `BadPortWord`, every other word decodes to a transaction within its
limits, and `TICK` with `N = 0` does nothing. -/
def Obligations.BadPortWordsRefused : Prop :=
  (∀ (s : State) (w : PortWord) (rest : List PortWord), s.refused = none → s.pending = w :: rest →
    (badPortWord s.config w = true → step s = .next { s with pending := rest, refused := some .badPortWord }) ∧
    (badPortWord s.config w = false → ∃ i, decode w = .ok i ∧ i.legal s.config = true ∧
      step s = exec i { s with pending := rest })) ∧
  ∀ s : State, exec (.tick 0) s = .next s

/-- A transaction outside the limits of R210 is refused with `BadPortWord` and has no other effect (R210, R755, R756).
The rows that R210 refuses outright (an offset at or above 0x060, the reserved space, the two reserved kinds) are
outside them whatever their operands. -/
def Obligations.IllegalInstrMarked : Prop :=
  (∀ (i : Instr) (s : State), s.refused = none → i.legal s.config = false →
    exec i s = .next { s with refused := some .badPortWord }) ∧
  ∀ (s : State) (d : BitVec 1) (off : BitVec 12) (data : Byte) (p : BitVec 27) (q : BitVec 29), s.refused = none →
    ∀ i ∈ [Instr.rd8OffOutOfRange d off, .wr8OffOutOfRange d off data, .memwr8ReservedSpace p, .reservedKind6 q,
      .reservedKind7 q], exec i s = .next { s with refused := some .badPortWord }

/-- R755: under the mark a legal read returns a draw of its width and nothing else has any effect. (That a word
outside R210's limits returns no value under the mark is the model's choice, log entry 12.) -/
def Obligations.MarkIsAbsorbing : Prop :=
  ∀ (i : Instr) (s : State), s.refused ≠ none →
    exec i s = .next (if i.legal s.config = true ∧ i.kind = 0b000 then drawsByte s
      else if i.legal s.config = true ∧ i.kind = 0b101 then drawsPixel s else s)

/-- R757: in DUAL every legal register access is refused with `DualUnmodelled`, and so is every render instant. -/
def Obligations.DualAccessesRefused : Prop :=
  (∀ (i : Instr) (s : State), s.refused = none → s.config.variant = .dual → i.legal s.config = true →
    i.kind = 0b000 ∨ i.kind = 0b001 → exec i s = .next { s with refused := some .dualUnmodelled }) ∧
  ∀ (s : State) (l : Nat), s.config.variant = .dual → s.renderLine l = { s with refused := some .dualUnmodelled }

/-! ### Register reads -/

/-- R306, R313, R320, R322, R325, R327: a read returns the addressed byte of the stored register and changes nothing.
Bit 3 of `DISPCNT` reads 0 (under the invariant that no stored bit lies outside a write mask). -/
def Obligations.Rd8StoredRegisters : Prop :=
  (∀ (s : State) (k : BitVec 1), Ready s →
    ∀ p ∈ [(Instr.rd8Dispcnt 0 k, s.disp0.regs.dispcnt),
      (.rd8Bg0cnt 0 k, s.disp0.regs.bg0cnt), (.rd8Bg1cnt 0 k, s.disp0.regs.bg1cnt),
      (.rd8Bg2cnt 0 k, s.disp0.regs.bg2cnt), (.rd8Bg3cnt 0 k, s.disp0.regs.bg3cnt),
      (.rd8Winin 0 k, s.disp0.regs.winin), (.rd8Winout 0 k, s.disp0.regs.winout),
      (.rd8Bldcnt 0 k, s.disp0.regs.bldcnt), (.rd8Bldalpha 0 k, s.disp0.regs.bldalpha)],
      exec p.1 s = .next (readsByte s (halfByte p.2 k))) ∧
  ∀ s : State, MaskInv s → (halfByte s.disp0.regs.dispcnt 0).getLsbD 3 = false

/-- R309, R414: a read of `DISPSTAT` is made of `LYC`, two zero bits, the stored enables and the three live flags. -/
def Obligations.Rd8DispstatLive : Prop :=
  ∀ (s : State) (k : BitVec 1), Ready s → ∃ v : Half,
    exec (.rd8Dispstat 0 k) s = .next (readsByte s (halfByte v k)) ∧
    v.extractLsb' 8 8 = s.disp0.regs.dispstat.extractLsb' 8 8 ∧ v.extractLsb' 6 2 = 0 ∧
    v.extractLsb' 3 3 = s.disp0.regs.dispstat.extractLsb' 3 3 ∧
    (v.getLsbD 2 = true ↔ s.vcount = (s.disp0.regs.dispstat.extractLsb' 8 8).toNat) ∧
    (v.getLsbD 1 = true ↔ s.config.hDrawTicks ≤ s.lineTicks) ∧
    (v.getLsbD 0 = true ↔ (s.config.screenH ≤ s.vcount ∧ s.vcount + 2 ≤ s.config.totalLines) ∨
      (s.vcount + 1 = s.config.totalLines ∧ s.config.vblankFlagOnLastLine = true))

/-- R310, R311: the `VCOUNT` register reads the line number in byte 0 and 0 in byte 1; writes are ignored. -/
def Obligations.VcountRegister : Prop :=
  ∀ (s : State) (k : BitVec 1) (data : Byte), Ready s →
    exec (.rd8Vcount 0 k) s = .next (readsByte s (if k = 0 then BitVec.ofNat 8 s.vcount else 0)) ∧
      exec (.wr8Vcount 0 k data) s = .next s

/-- R302: a read of a write-only register returns a draw, a free value that no stored value enters, and changes no
state of the block. It holds for every value of the free value. -/
def Obligations.Rd8WriteOnlyDraws : Prop :=
  ∀ (s : State) (k : BitVec 1) (j : BitVec 2), Ready s →
    ∀ i ∈ [Instr.rd8Bg0hofs 0 k, .rd8Bg0vofs 0 k, .rd8Bg1hofs 0 k, .rd8Bg1vofs 0 k, .rd8Bg2hofs 0 k,
      .rd8Bg2vofs 0 k, .rd8Bg3hofs 0 k, .rd8Bg3vofs 0 k, .rd8Bg2pa 0 k, .rd8Bg2pb 0 k, .rd8Bg2pc 0 k,
      .rd8Bg2pd 0 k, .rd8Bg3pa 0 k, .rd8Bg3pb 0 k, .rd8Bg3pc 0 k, .rd8Bg3pd 0 k, .rd8Bg2x 0 j, .rd8Bg2y 0 j,
      .rd8Bg3x 0 j, .rd8Bg3y 0 j, .rd8Win0h 0 k, .rd8Win1h 0 k, .rd8Win0v 0 k, .rd8Win1v 0 k, .rd8Mosaic 0 k,
      .rd8Bldy 0 k], exec i s = .next (drawsByte s)

/-- R303: a write to an unused offset is ignored, a read of one returns a draw. -/
def Obligations.UnusedOffsets : Prop :=
  ∀ (s : State) (k : BitVec 1) (j : BitVec 3) (data : Byte), Ready s →
    (∀ i ∈ [Instr.rd8Unused04e 0 k, .rd8Unused056 0 k, .rd8Unused058 0 j], exec i s = .next (drawsByte s)) ∧
      ∀ i ∈ [Instr.wr8Unused04e 0 k data, .wr8Unused056 0 k data, .wr8Unused058 0 j data], exec i s = .next s

/-- R305, R307: a non-zero byte written to the green-swap slot is refused, a zero byte does nothing, a read is a draw.
-/
def Obligations.GreenSwapSlot : Prop :=
  ∀ (s : State) (k : BitVec 1) (data : Byte), Ready s →
    exec (.wr8Greenswap 0 k 0) s = .next s ∧
      (data ≠ 0 → exec (.wr8Greenswap 0 k data) s = .next { s with refused := some .greenSwapUnmodelled }) ∧
      exec (.rd8Greenswap 0 k) s = .next (drawsByte s)

/-! ### Register writes -/

/-- R304, R308, R312: a byte write of a display or layer control register stores the masked byte and nothing else. -/
def Obligations.Wr8ControlRegisters : Prop :=
  ∀ (s : State) (k : BitVec 1) (v : Byte) (r : Regs), Ready s → s.disp0.regs = r →
    ∀ p ∈ [(Instr.wr8Dispcnt 0 k v, { r with dispcnt := halfWrite r.dispcnt k v 0xFFF7 }),
      (.wr8Dispstat 0 k v, { r with dispstat := halfWrite r.dispstat k v 0xFF38 }),
      (.wr8Bg0cnt 0 k v, { r with bg0cnt := halfWrite r.bg0cnt k v 0xDFFF }),
      (.wr8Bg1cnt 0 k v, { r with bg1cnt := halfWrite r.bg1cnt k v 0xDFFF }),
      (.wr8Bg2cnt 0 k v, { r with bg2cnt := halfWrite r.bg2cnt k v 0xFFFF }),
      (.wr8Bg3cnt 0 k v, { r with bg3cnt := halfWrite r.bg3cnt k v 0xFFFF })],
      exec p.1 s = .next (withRegs s p.2)

/-- R314, R315: a byte write of a scroll register keeps nine bits; a byte write of a matrix register keeps all
sixteen, and neither touches an internal reference point. -/
def Obligations.Wr8ScrollAndMatrix : Prop :=
  ∀ (s : State) (k : BitVec 1) (v : Byte) (r : Regs), Ready s → s.disp0.regs = r →
    ∀ p ∈ [(Instr.wr8Bg0hofs 0 k v, { r with bg0hofs := halfWrite r.bg0hofs k v 0x01FF }),
      (.wr8Bg0vofs 0 k v, { r with bg0vofs := halfWrite r.bg0vofs k v 0x01FF }),
      (.wr8Bg1hofs 0 k v, { r with bg1hofs := halfWrite r.bg1hofs k v 0x01FF }),
      (.wr8Bg1vofs 0 k v, { r with bg1vofs := halfWrite r.bg1vofs k v 0x01FF }),
      (.wr8Bg2hofs 0 k v, { r with bg2hofs := halfWrite r.bg2hofs k v 0x01FF }),
      (.wr8Bg2vofs 0 k v, { r with bg2vofs := halfWrite r.bg2vofs k v 0x01FF }),
      (.wr8Bg3hofs 0 k v, { r with bg3hofs := halfWrite r.bg3hofs k v 0x01FF }),
      (.wr8Bg3vofs 0 k v, { r with bg3vofs := halfWrite r.bg3vofs k v 0x01FF }),
      (.wr8Bg2pa 0 k v, { r with bg2pa := halfWrite r.bg2pa k v 0xFFFF }),
      (.wr8Bg2pb 0 k v, { r with bg2pb := halfWrite r.bg2pb k v 0xFFFF }),
      (.wr8Bg2pc 0 k v, { r with bg2pc := halfWrite r.bg2pc k v 0xFFFF }),
      (.wr8Bg2pd 0 k v, { r with bg2pd := halfWrite r.bg2pd k v 0xFFFF }),
      (.wr8Bg3pa 0 k v, { r with bg3pa := halfWrite r.bg3pa k v 0xFFFF }),
      (.wr8Bg3pb 0 k v, { r with bg3pb := halfWrite r.bg3pb k v 0xFFFF }),
      (.wr8Bg3pc 0 k v, { r with bg3pc := halfWrite r.bg3pc k v 0xFFFF }),
      (.wr8Bg3pd 0 k v, { r with bg3pd := halfWrite r.bg3pd k v 0xFFFF })],
      exec p.1 s = .next (withRegs s p.2)

/-- R317, R318, R319, R321, R323, R324, R326, R328: byte writes of the window, mosaic and blend registers. -/
def Obligations.Wr8WindowsMosaicBlend : Prop :=
  ∀ (s : State) (k : BitVec 1) (v : Byte) (r : Regs), Ready s → s.disp0.regs = r →
    ∀ p ∈ [(Instr.wr8Win0h 0 k v, { r with win0h := halfWrite r.win0h k v 0xFFFF }),
      (.wr8Win1h 0 k v, { r with win1h := halfWrite r.win1h k v 0xFFFF }),
      (.wr8Win0v 0 k v, { r with win0v := halfWrite r.win0v k v 0xFFFF }),
      (.wr8Win1v 0 k v, { r with win1v := halfWrite r.win1v k v 0xFFFF }),
      (.wr8Winin 0 k v, { r with winin := halfWrite r.winin k v 0x3F3F }),
      (.wr8Winout 0 k v, { r with winout := halfWrite r.winout k v 0x3F3F }),
      (.wr8Mosaic 0 k v, { r with mosaic := halfWrite r.mosaic k v 0xFFFF }),
      (.wr8Bldcnt 0 k v, { r with bldcnt := halfWrite r.bldcnt k v 0x3FFF }),
      (.wr8Bldalpha 0 k v, { r with bldalpha := halfWrite r.bldalpha k v 0x1F1F }),
      (.wr8Bldy 0 k v, { r with bldy := halfWrite r.bldy k v 0x001F })],
      exec p.1 s = .next (withRegs s p.2)

/-- R316: a byte write of a reference point register stores the masked byte and reloads the matching internal point
from the whole stored register. -/
def Obligations.Wr8ReferencePoints : Prop :=
  ∀ (s : State) (k : BitVec 2) (v : Byte) (d : Display) (w : BitVec 32), Ready s → s.disp0 = d →
    (w = wordWrite d.regs.bg2x k v 0x0FFFFFFF → exec (.wr8Bg2x 0 k v) s = .next
      { s with disp0 := { d with regs := { d.regs with bg2x := w }, bg2xInt := w.setWidth 28 } }) ∧
    (w = wordWrite d.regs.bg2y k v 0x0FFFFFFF → exec (.wr8Bg2y 0 k v) s = .next
      { s with disp0 := { d with regs := { d.regs with bg2y := w }, bg2yInt := w.setWidth 28 } }) ∧
    (w = wordWrite d.regs.bg3x k v 0x0FFFFFFF → exec (.wr8Bg3x 0 k v) s = .next
      { s with disp0 := { d with regs := { d.regs with bg3x := w }, bg3xInt := w.setWidth 28 } }) ∧
    (w = wordWrite d.regs.bg3y k v 0x0FFFFFFF → exec (.wr8Bg3y 0 k v) s = .next
      { s with disp0 := { d with regs := { d.regs with bg3y := w }, bg3yInt := w.setWidth 28 } })

/-- R300's corner case: writing byte `k` of a register leaves its other bytes bit for bit unchanged, stores the masked
byte, and leaves every other register alone. The premise is the invariant that no bit lies outside the write mask. -/
def Obligations.ByteWriteKeepsOtherBytes : Prop :=
  ∀ (d : Display) (reg : Reg) (k k' : Nat) (v : Byte), k < 4 → k' < 4 →
    d.regs.get reg &&& reg.wmask = d.regs.get reg →
    (k' ≠ k → byteOf ((d.storeByte reg k v).regs.get reg) k' = byteOf (d.regs.get reg) k') ∧
      byteOf ((d.storeByte reg k v).regs.get reg) k = v &&& byteOf reg.wmask k ∧
      ∀ reg', reg' ≠ reg → (d.storeByte reg k v).regs.get reg' = d.regs.get reg'

/-- The inference of 20_memory.md R155, which the spec marks as derived (from R300, R316): repeating a register or
memory write with the same byte has the same effect as one write. -/
def Obligations.RepeatedWriteIsOneWrite : Prop :=
  ∀ (i : Instr) (s t : State), i.kind = 0b001 ∨ i.kind = 0b100 → exec i s = .next t → exec i t = .next t

/-- R51, R73, R726: only `TICK` moves the position, emits notifications, or changes the sprite buffers, the output
image, the back index or the frame counter. -/
def Obligations.OnlyTickMovesTime : Prop :=
  ∀ (i : Instr) (s t : State), i.kind ≠ 0b010 → exec i s = .next t →
    t.phase = s.phase ∧ t.vcount = s.vcount ∧ t.lineTicks = s.lineTicks ∧ t.outEvents = s.outEvents ∧
    ∀ disp, (t.display disp).objBuf = (s.display disp).objBuf ∧ (t.display disp).objWin = (s.display disp).objWin ∧
      (t.display disp).objBufLine = (s.display disp).objBufLine ∧ (t.display disp).buf0 = (s.display disp).buf0 ∧
      (t.display disp).buf1 = (s.display disp).buf1 ∧ (t.display disp).back = (s.display disp).back ∧
      (t.display disp).frameCount = (s.display disp).frameCount

/-! ### Memories, host -/

/-- R340: `MEMWR8` stores the byte at its address; every other byte of every memory reads as before, and nothing else
of the machine changes. At an address at or above the size of the space, or to the reserved space, it is refused. -/
def Obligations.Memwr8StoresOneByte : Prop :=
  ∀ (s : State) (disp : BitVec 1) (addr : BitVec 17) (v : Byte) (payload : BitVec 27), s.refused = none →
    disp.toNat < s.config.numDisplays →
    (∀ p ∈ [(Space.pal, Instr.memwr8Pal disp addr v), (.vram, .memwr8Vram disp addr v), (.oam, .memwr8Oam disp addr v)],
      (addr.toNat < s.config.spaceBytes p.1 → ∃ t, exec p.2 s = .next t ∧
        (t.display disp).readByte p.1 addr.toNat = v ∧
        (∀ sp a, sp ≠ p.1 ∨ a ≠ addr.toNat → (t.display disp).readByte sp a = (s.display disp).readByte sp a) ∧
        (∀ disp', disp' ≠ disp → t.display disp' = s.display disp') ∧
        t = { s with disp0 := t.disp0, disp1 := t.disp1 } ∧
        t.display disp = { s.display disp with
          pal := (t.display disp).pal, vram := (t.display disp).vram, oam := (t.display disp).oam }) ∧
      (s.config.spaceBytes p.1 ≤ addr.toNat → exec p.2 s = .next { s with refused := some .badPortWord })) ∧
    exec (.memwr8ReservedSpace payload) s = .next { s with refused := some .badPortWord }

/-- R330: `ACK` clears the frame-ready flag of its display instance and changes nothing else. -/
def Obligations.AckClearsFrameReady : Prop :=
  ∀ s : State, s.refused = none →
    exec (.ack 0) s = .next { s with disp0 := { s.disp0 with frameReady := false } } ∧
      (s.config.variant = .dual →
        exec (.ack 1) s = .next { s with disp1 := { s.disp1 with frameReady := false } })

/-- R331: `RDPIX` returns a pixel of the front buffer, the one that is not the back buffer, and changes nothing; a
pixel of a row never written is a draw (the free value `Config.resetPixel`, whatever it is). Off the screen it is
refused. -/
def Obligations.RdpixReadsFront : Prop :=
  ∀ (s : State) (disp : BitVec 1) (x y : BitVec 8) (d : Display) (front : Image), s.refused = none →
    disp.toNat < s.config.numDisplays → d = s.display disp → front = (if d.back = 0 then d.buf1 else d.buf0) →
    (x.toNat < s.config.screenW → y.toNat < s.config.screenH →
      ∃ c : Color, exec (.rdpix disp y x) s = .next { s with outReads := s.outReads ++ [.pixel c] } ∧
        (∀ row, Sparse.find front y.toNat = some row → ∀ h : x.toNat < row.length, c = row[x.toNat]) ∧
        (Sparse.find front y.toNat = none →
          c = Config.resetPixel d.index (decide (d.back = 0)) y.toNat x.toNat)) ∧
    (s.config.screenW ≤ x.toNat ∨ s.config.screenH ≤ y.toNat →
      exec (.rdpix disp y x) s = .next { s with refused := some .badPortWord })

/-- R72, R727: only an `ACK` of the same display instance clears a frame-ready flag. -/
def Obligations.FrameReadyClearedOnlyByAck : Prop :=
  ∀ (i : Instr) (s t : State) (disp : BitVec 1), exec i s = .next t → (s.display disp).frameReady = true →
    (t.display disp).frameReady = false → i = .ack disp

/-- The inference that 48_framebuffer_mux.md R726 marks as derived (from R412 and R725): while no swap happens the
front buffer does not change, whatever the step. -/
def Obligations.FrontBufferStable : Prop :=
  ∀ (s t : State), step s = .next t → t.disp0.frameCount = s.disp0.frameCount →
    ∀ y x, t.disp0.frontPixel y x = s.disp0.frontPixel y x

/-! ### Reset and invariants -/

/-- R85: the state after reset. A draw of the table is a free value. (The values of the model's own fields are the
model's choice, log entries 1, 4 and 5, and are not stated here.) -/
def Obligations.ResetState : Prop :=
  let s := State.reset
  s.config = Config.single ∧ s.phase = .drawing ∧ s.vcount = 0 ∧ s.lineTicks = 0 ∧ s.refused = none ∧
  s.outEvents = [] ∧ (∀ reg, s.disp0.regs.get reg = 0) ∧
  s.disp0.bg2xInt = 0 ∧ s.disp0.bg2yInt = 0 ∧ s.disp0.bg3xInt = 0 ∧ s.disp0.bg3yInt = 0 ∧
  (∀ x, s.disp0.objPixelAt x = none) ∧ (∀ x, s.disp0.objWin.getD x false = false) ∧ s.disp0.objBufLine = none ∧
  s.disp0.back = 0 ∧ s.disp0.frameReady = false ∧ s.disp0.frameCount = 0 ∧
  (∀ i y x, s.disp0.pixel i y x = Config.resetPixel 0 (decide (i = 1)) y x) ∧
  ∀ sp a, s.disp0.readByte sp a = Config.resetByte 0 sp a

/-- The reset state meets the invariants that every step keeps. -/
def Obligations.ResetMeetsInvariants : Prop :=
  PositionInv State.reset ∧ MaskInv State.reset ∧ CanonicalInv State.reset ∧ ShapeInv State.reset

/-- The invariant that 41_scanline_timing_fsm.md R400 marks as derived: the position stays legal and the phase stays
the row of the table, whatever the step. -/
def Obligations.PositionStaysLegal : Prop :=
  ∀ s t : State, PositionInv s → step s = .next t → PositionInv t

/-- R300: no step sets a stored bit outside a write mask. -/
def Obligations.StoredBitsStayMasked : Prop :=
  ∀ s t : State, MaskInv s → step s = .next t → MaskInv t

/-- R151, R210: every step keeps the memories and output buffers canonical, with every address and row in range. -/
def Obligations.MemoryStaysCanonical : Prop :=
  ∀ s t : State, CanonicalInv s → step s = .next t → CanonicalInv t

/-- R69, R71: every step keeps the sprite line buffers and the written rows `SCREEN_W` entries long. -/
def Obligations.BuffersKeepTheirShape : Prop :=
  ∀ s t : State, ShapeInv s → step s = .next t → ShapeInv t

/-- R80, R6, R75, R755: no step removes or reorders a notification, changes the configuration, clears or changes a
recorded refusal, or, in SINGLE, touches the display instance that the variant does not have (log entry 9 of the
model). -/
def Obligations.HistoryIsKept : Prop :=
  ∀ s t : State, step s = .next t →
    (∃ l, t.outEvents = s.outEvents ++ l) ∧ t.config = s.config ∧ (s.refused ≠ none → t.refused = s.refused) ∧
      (s.config.variant = .single → t.disp1 = s.disp1)

/-! ### Ticks -/

/-- R401: a `TICK` of `a + b` ticks is a `TICK` of `a` followed by one of `b`. -/
def Obligations.TickComposes : Prop :=
  ∀ (s t : State) (a b n : BitVec 29), a.toNat + b.toNat = n.toNat → exec (.tick a) s = .next t →
    exec (.tick n) s = exec (.tick b) t

/-- R402: a `TICK` that reaches neither the hblank entry nor the line end only counts ticks. -/
def Obligations.TickInsideLinePart : Prop :=
  ∀ (s : State) (n : BitVec 29), s.refused = none →
    (s.lineTicks + n.toNat < s.config.hDrawTicks ∧ s.config.hDrawTicks ≤ s.config.hTotal) ∨
      (s.config.hDrawTicks ≤ s.lineTicks ∧ s.lineTicks + n.toNat < s.config.hTotal) →
    exec (.tick n) s = .next { s with lineTicks := s.lineTicks + n.toNat }

/-- R403, R404: the hblank entry of a visible line emits `DMA_HBLANK` and, if enabled, `IRQ_HBLANK`; that of a
blanking line emits the interrupt only. -/
def Obligations.TickEntersHblank : Prop :=
  ∀ s : State, s.refused = none → s.config = Config.single → s.lineTicks = 959 →
    (s.phase = .drawing → exec (.tick 1) s = .next { s with
      lineTicks := 960
      phase := .hblank
      outEvents := s.outEvents ++ [.dmaHblank] ++ irqIf (s.disp0.regs.dispstat.getLsbD 4) .irqHblank }) ∧
    (s.phase = .vblank → exec (.tick 1) s = .next { s with
      lineTicks := 960
      phase := .vblankHblank
      outEvents := s.outEvents ++ irqIf (s.disp0.regs.dispstat.getLsbD 4) .irqHblank })

/-- R405, R406, R412, R413: the entry into a visible line checks the vcount, writes the line's row into the back
buffer, steps the affine points and pre-renders the next line's sprites, in this order. -/
def Obligations.TickEntersVisibleLine : Prop :=
  ∀ (s : State) (l : Nat), s.refused = none → s.config = Config.single → s.lineTicks = 1231 →
    l = (s.vcount + 1) % 228 → l < 160 → s.disp0.regs.bgMode < 6 →
    let rendered := (s.disp0.writeRow l (Display.framebufferRow Config.single s.disp0 l)).affineStep
    exec (.tick 1) s = .next { atLine s l .drawing [] with
      disp0 := if l < 159 then Display.spritePrerender Config.single (l + 1) rendered else rendered }

/-- R412, R755: a visible line entered in background mode 6 or 7 is refused at its render, and the rest of the `TICK`
does not run: the position, the phase and the notifications of the entry stand, nothing else. -/
def Obligations.InvalidModeStopsTick : Prop :=
  ∀ (s : State) (l : Nat) (n : BitVec 29), s.refused = none → s.config = Config.single → s.lineTicks = 1231 →
    l = (s.vcount + 1) % 228 → l < 160 → 6 ≤ s.disp0.regs.bgMode → 1 ≤ n.toNat →
    exec (.tick n) s = .next { atLine s l .drawing [] with refused := some .invalidBgMode }

/-- R407, R725: the entry into vblank notifies, counts the frame, swaps the buffers without copying a pixel, raises
the frame-ready flag and reloads the internal reference points. -/
def Obligations.TickEntersVblank : Prop :=
  ∀ s : State, s.refused = none → s.config = Config.single → s.lineTicks = 1231 → s.vcount = 159 →
    exec (.tick 1) s = .next
      { atLine s 160 .vblank ([.dmaVblank] ++ irqIf (s.disp0.regs.dispstat.getLsbD 3) .irqVblank) with
        disp0 := { s.disp0 with
          frameCount := s.disp0.frameCount + 1
          back := 1 - s.disp0.back
          frameReady := true
          bg2xInt := s.disp0.regs.bg2x.setWidth 28
          bg2yInt := s.disp0.regs.bg2y.setWidth 28
          bg3xInt := s.disp0.regs.bg3x.setWidth 28
          bg3yInt := s.disp0.regs.bg3y.setWidth 28 } }

/-- R405, R409, R410: another blanking line only checks the vcount, and the last one also pre-renders the sprites of
line 0. -/
def Obligations.TickEntersBlankingLine : Prop :=
  ∀ s : State, s.refused = none → s.config = Config.single → s.lineTicks = 1231 → 160 ≤ s.vcount → s.vcount < 227 →
    exec (.tick 1) s = .next { atLine s (s.vcount + 1) .vblank [] with
      disp0 := if s.vcount = 226 then Display.spritePrerender Config.single 0 s.disp0 else s.disp0 }

/-- R11, R150: no `TICK` writes a register, an external memory, a read result or the pending words. -/
def Obligations.TickKeepsRegistersAndMemories : Prop :=
  ∀ (n : BitVec 29) (s t : State), exec (.tick n) s = .next t →
    t.config = s.config ∧ t.outReads = s.outReads ∧ t.draws = s.draws ∧ t.pending = s.pending ∧
    ∀ disp, (t.display disp).regs = (s.display disp).regs ∧ (t.display disp).index = (s.display disp).index ∧
      ∀ sp, (t.display disp).memory sp = (s.display disp).memory sp

/-- R413: the affine step adds the sign-extended `PB` and `PD`, wrapping at 28 bits. -/
def Obligations.AffineStepWraps : Prop :=
  ∀ (d : Display) (n : AffineBg),
    d.affineStep.xInt n = (d.xInt n + d.regs.pb n).bmod (2 ^ 28) ∧
      d.affineStep.yInt n = (d.yInt n + d.regs.pd n).bmod (2 ^ 28)

/-- The inference of 41_scanline_timing_fsm.md R415, which the spec marks as derived (from R401, R402, R85): the
position after `n` ticks that no refusal cuts short is `n` ticks further on in the frame of 280896, and the frame
counter has counted the entries into line 160 on the way. -/
def Obligations.ExactPhase : Prop :=
  ∀ (n : BitVec 29) (s t : State), PositionInv s → exec (.tick n) s = .next t → t.refused = none →
    frameTick t = (frameTick s + n.toNat) % 280896 ∧
      t.disp0.frameCount + vblanksBy (frameTick s) = s.disp0.frameCount + vblanksBy (frameTick s + n.toNat)

/-- The inference of 41_scanline_timing_fsm.md R417, which the spec marks as derived (from R403-R410): one whole frame
from its start, with every interrupt enabled and `LYC` a line of the frame, emits exactly 228 `IRQ_HBLANK`, 160
`DMA_HBLANK` and one each of `DMA_VBLANK`, `IRQ_VBLANK` and `IRQ_VCOUNT`. -/
def Obligations.FrameNotificationCounts : Prop :=
  ∀ s t : State, PositionInv s → s.refused = none → frameTick s = 0 → s.disp0.regs.bgMode < 6 →
    s.disp0.regs.vblankIrqEn = true → s.disp0.regs.hblankIrqEn = true → s.disp0.regs.vcountIrqEn = true →
    s.disp0.regs.lyc < 228 → exec (.tick 280896) s = .next t →
    ∃ l, t.outEvents = s.outEvents ++ l ∧ l.count .irqHblank = 228 ∧ l.count .dmaHblank = 160 ∧
      l.count .dmaVblank = 1 ∧ l.count .irqVblank = 1 ∧ l.count .irqVcount = 1

/-! ### Rendering -/

/-- R721: forced blank makes every pixel of the row the blank colour, white in SINGLE, whatever else the state holds.
-/
def Obligations.ForcedBlankRowConstant : Prop :=
  (∀ (c : Config) (d : Display) (l : Nat), d.regs.dispcnt.getLsbD 7 = true →
    Display.framebufferRow c d l = List.replicate c.screenW c.blankColor) ∧ Config.single.blankColor = 0x7FFF

/-- R455: toggling a map entry's flip bit shows the tile mirrored in that axis, for both tile depths. -/
def Obligations.TileFlipMirrors : Prop :=
  ∀ (c : Config) (d : Display) (cnt entry : Half) (tx ty : Nat),
    Display.tileTexel c d cnt (entry ^^^ 0x0400) tx ty =
        Display.tileTexel c d cnt entry (tx - tx % 8 + (7 - tx % 8)) ty ∧
      Display.tileTexel c d cnt (entry ^^^ 0x0800) tx ty =
        Display.tileTexel c d cnt entry tx (ty - ty % 8 + (7 - ty % 8))

/-- Consequences of R458, R546 and R592 (the bound of R546 is marked as derived there): in SINGLE the text and affine
layers never show a byte of VRAM at or above 0x10000, the bitmap layer none at or above 0x14000, and sprites only
bytes of the 32 KiB from 0x10000 on. -/
def Obligations.FetchesStayInTheirRegion : Prop :=
  ∀ d d' : Display,
    (SameVideo d d' (fun a => a < 0x10000) → ∀ l x,
      (∀ n, Display.textTexel Config.single d n l x = Display.textTexel Config.single d' n l x) ∧
        ∀ n, Display.affineTexel Config.single d n l x = Display.affineTexel Config.single d' n l x) ∧
    (SameVideo d d' (fun a => a < 0x14000) → ∀ m l x, d.bitmapTexel m l x = d'.bitmapTexel m l x) ∧
    (SameVideo d d' (fun a => 0x10000 ≤ a ∧ a < 0x18000) → ∀ a sx sy,
      Display.objTexel Config.single d a sx sy = Display.objTexel Config.single d' a sx sy)

/-- The equality that 43_affine_layer_renderer.md R503 marks as derived: without mosaic the sample points of a line
are reached by adding `PA` and `PC` once per column. -/
def Obligations.AffineColumnsAccumulate : Prop :=
  ∀ (d : Display) (n : AffineBg) (l x : Nat), (d.regs.affineCnt n).getLsbD 6 = false →
    let p := (fun q : Int × Int => (q.1 + d.regs.pa n, q.2 + d.regs.pc n))^[x] (d.affineStart n l)
    d.affinePoint n l x = (p.1 / 256, p.2 / 256)

/-- The inference of 44_bitmap_layer_renderer.md R541, which the spec marks as derived: with the identity matrix, no
mosaic and the internal point at the line's start, a bitmap line is the plain framebuffer row. -/
def Obligations.IdentityBitmapIsDirect : Prop :=
  ∀ (d : Display) (m : BitmapMode) (l x : Nat), d.regs.bg2pa = 0x0100 → d.regs.bg2pc = 0 →
    d.regs.bg2cnt.getLsbD 6 = false → d.bg2xInt = 0 → d.bg2yInt.toInt = 256 * l → x < m.width → l < m.height →
    d.bitmapTexel m l x = d.bitmapFetch m x l

/-- R581, R582: with sprites disabled the pre-render leaves no sprite pixel and no object-window hit for its line. -/
def Obligations.SpriteGate : Prop :=
  ∀ (c : Config) (t : Nat) (d : Display), d.regs.dispcnt.getLsbD 12 = false →
    Display.spritePrerender c t d = { d with
      objBuf := List.replicate c.screenW none, objWin := List.replicate c.screenW false, objBufLine := some t }

/-- R583, R594: after a pre-render each column holds the pixel of lowest priority value among the entries that draw
there, the earliest entry winning a tie, and nothing where no entry draws. -/
def Obligations.SpriteColumnWinner : Prop :=
  ∀ (d : Display) (t col : Nat), d.regs.objEn = true → col < 240 →
    match (Display.spritePrerender Config.single t d).objPixelAt col with
    | none => ∀ i < 128, entryPixel d t i col = none
    | some p => ∃ i < 128, entryPixel d t i col = some p ∧
        ∀ j < 128, ∀ q, entryPixel d t j col = some q →
          p.prio.toNat ≤ q.prio.toNat ∧ (j < i → p.prio.toNat < q.prio.toNat)

/-- R593: after a pre-render a column is an object-window hit exactly when some window-mode entry has an opaque texel
there. -/
def Obligations.SpriteWindowHits : Prop :=
  ∀ (d : Display) (t col : Nat), d.regs.objEn = true → col < 240 →
    ((Display.spritePrerender Config.single t d).objWin.getD col false = true ↔
      ∃ i < 128, entryWindow d t i col)

/-- The inference of 45_sprite_renderer.md R590, which the spec marks as derived (from R588, R589): every sample point
lies inside the sprite. -/
def Obligations.SpriteSamplesInside : Prop :=
  ∀ (d : Display) (a : ObjAttr) (t dx sx sy : Nat), a.covers t = true → dx < a.box.1 →
    d.objSample a t dx = some (sx, sy) → sx < (objSize a.shape a.size).1 ∧ sy < (objSize a.shape a.size).2

/-- R641: on 8-bit values `Inside` is the modular interval from the inclusive to the exclusive bound. -/
def Obligations.InsideIsModular : Prop :=
  ∀ lo hi v : BitVec 8, (inside lo.toNat hi.toNat v.toNat = true ↔ (v - lo).toNat < (hi - lo).toNat)

/-- R642, R643: the mask of a column is taken from the first of window 0, window 1, object window, outside that holds
it, each hit said in register bits. -/
def Obligations.WindowPrecedence : Prop :=
  ∀ (d : Display) (l x : Nat) (r : Regs), d.regs = r →
    (r.dispcnt.getLsbD 13 = false → r.dispcnt.getLsbD 14 = false → r.dispcnt.getLsbD 15 = false →
      d.winMask l x = 0b111111) ∧
    (rectHit r 13 r.win0h r.win0v x l → d.winMask l x = r.winin.extractLsb' 0 6) ∧
    (¬ rectHit r 13 r.win0h r.win0v x l → rectHit r 14 r.win1h r.win1v x l →
      d.winMask l x = r.winin.extractLsb' 8 6) ∧
    (¬ rectHit r 13 r.win0h r.win0v x l → ¬ rectHit r 14 r.win1h r.win1v x l → objHit d l x →
      d.winMask l x = r.winout.extractLsb' 8 6) ∧
    (r.dispcnt.getLsbD 13 = true ∨ r.dispcnt.getLsbD 14 = true ∨ r.dispcnt.getLsbD 15 = true →
      ¬ rectHit r 13 r.win0h r.win0v x l → ¬ rectHit r 14 r.win1h r.win1v x l → ¬ objHit d l x →
      d.winMask l x = r.winout.extractLsb' 0 6)

/-- R670 with R225, R671, R672: the candidates of a column are exactly those of the table; the top is the candidate
with the smallest key and the bottom the one with the second smallest; there is no bottom exactly when the backdrop is
on top. -/
def Obligations.TopAndBottom : Prop :=
  ∀ (c : Config) (d : Display) (l x : Nat),
    (∀ k, k ∈ Display.candidates c d l x ↔ isCandidate c d l x k) ∧
    ∀ (top : Candidate) (bottom : Option Candidate), Display.topBottom c d l x = (top, bottom) →
      isCandidate c d l x top ∧
      (∀ k, isCandidate c d l x k → k ≠ top → inFront top k) ∧
      (bottom = none ↔ top.layer = .bd) ∧
      ∀ b, bottom = some b → isCandidate c d l x b ∧ b ≠ top ∧
        ∀ k, isCandidate c d l x k → k ≠ top → k ≠ b → inFront b k

/-- R722, R640: a line whose sprite buffers were rendered for another line shows nothing of them. -/
def Obligations.StaleSpriteBufferIgnored : Prop :=
  ∀ (c : Config) (d d' : Display) (l : Nat), d.objBufLine ≠ some l → d'.objBufLine ≠ some l →
    d' = { d with objBuf := d'.objBuf, objWin := d'.objWin, objBufLine := d'.objBufLine } →
    Display.framebufferRow c d' l = Display.framebufferRow c d l

/-- R676: each channel of an alpha blend is the weighted sum of the two channels over 16, saturated at 31, with
coefficients clamped at 16. So coefficients 16 and 0 reproduce the first target, 0 and 16 the second. -/
def Obligations.AlphaChannels : Prop :=
  (∀ (r : Regs) (a b : Color) (eva evb : Nat), eva = min (r.bldalpha.extractLsb' 0 5).toNat 16 →
    evb = min (r.bldalpha.extractLsb' 8 5).toNat 16 →
    red (alphaBlend r.eva r.evb a b) = min 31 ((red a * eva + red b * evb) >>> 4) ∧
      green (alphaBlend r.eva r.evb a b) = min 31 ((green a * eva + green b * evb) >>> 4) ∧
      blue (alphaBlend r.eva r.evb a b) = min 31 ((blue a * eva + blue b * evb) >>> 4)) ∧
  ∀ a b : Color, alphaBlend 16 0 a b = a ∧ alphaBlend 0 16 a b = b

/-- R677, R678, R679: each channel of a brightness change, which stays in 0..31; at coefficient 16 the colour is white
or black, at 0 it is unchanged. -/
def Obligations.BrightnessChannels : Prop :=
  (∀ (r : Regs) (a : Color), let evy := min (r.bldy.extractLsb' 0 5).toNat 16
    red (brighten r.evy a) = red a + ((31 - red a) * evy) >>> 4 ∧
    green (brighten r.evy a) = green a + ((31 - green a) * evy) >>> 4 ∧
    blue (brighten r.evy a) = blue a + ((31 - blue a) * evy) >>> 4 ∧
    red (darken r.evy a) = red a - (red a * evy) >>> 4 ∧
    green (darken r.evy a) = green a - (green a * evy) >>> 4 ∧
    blue (darken r.evy a) = blue a - (blue a * evy) >>> 4) ∧
  ∀ a : Color, brighten 16 a = 0x7FFF ∧ darken 16 a = 0x0000 ∧ brighten 0 a = a ∧ darken 0 a = a

/-- R673, R674, R675, R680: the colour of a column. Masked off, the top colour; a translucent sprite over a second
target blends whatever the effect code; else a first target takes the effect of `BLDCNT[7:6]`: 0 none, 1 the alpha
blend with a second target below and none without, 2 brighter, 3 darker (R228); a top that is neither shows its
colour. The composite of a column is this effect of its top and bottom, allowed by bit 5 of its window mask. -/
def Obligations.EffectNeedsItsTargets : Prop :=
  (∀ (r : Regs) (fx : Bool) (top : Candidate) (bottom : Option Candidate),
    (fx = false → r.effect fx top bottom = top.color) ∧
    (fx = true → ∀ b, bottom = some b → forcedBlend r top bottom →
      r.effect fx top bottom = alphaBlend r.eva r.evb top.color b.color) ∧
    (fx = true → ¬ forcedBlend r top bottom → firstTarget r top →
      (r.bldcnt.extractLsb' 6 2 = 0 → r.effect fx top bottom = top.color) ∧
      (r.bldcnt.extractLsb' 6 2 = 1 →
        (∀ b, bottom = some b → secondTarget r bottom →
          r.effect fx top bottom = alphaBlend r.eva r.evb top.color b.color) ∧
        (¬ secondTarget r bottom → r.effect fx top bottom = top.color)) ∧
      (r.bldcnt.extractLsb' 6 2 = 2 → r.effect fx top bottom = brighten r.evy top.color) ∧
      (r.bldcnt.extractLsb' 6 2 = 3 → r.effect fx top bottom = darken r.evy top.color)) ∧
    (fx = true → ¬ forcedBlend r top bottom → ¬ firstTarget r top → r.effect fx top bottom = top.color)) ∧
  ∀ (c : Config) (d : Display) (l x : Nat) (top : Candidate) (bottom : Option Candidate),
    Display.topBottom c d l x = (top, bottom) →
    Display.composite c d l x = d.regs.effect ((d.winMask l x).getLsbD 5) top bottom
end

