-- ==== Sys2Proof/Laws/Encoding.lean ====
section
/-! SUPPORT. What the decoder reads from the words of the formats `RD8`, `WR8` and `MEMWR8` (30_encoding.md R204, R205,
R208): every field of the encoder's word. -/

namespace Sys2Proof

/-- A field that lies in the low part of two values side by side. -/
theorem extract_low {a b : Nat} (x : BitVec a) (y : BitVec b) (lo len : Nat) (h : lo + len ≤ b) :
    (x ++ y).extractLsb' lo len = y.extractLsb' lo len := by
  apply BitVec.eq_of_getLsbD_eq; intro i hi
  simp only [BitVec.getLsbD_extractLsb', BitVec.getLsbD_append]
  rw [if_pos (by omega)]

/-- A field that lies in the high part of two values side by side. -/
theorem extract_high {a b : Nat} (x : BitVec a) (y : BitVec b) (lo len : Nat) (h : b ≤ lo) :
    (x ++ y).extractLsb' lo len = x.extractLsb' (lo - b) len := by
  apply BitVec.eq_of_getLsbD_eq; intro i hi
  simp only [BitVec.getLsbD_extractLsb', BitVec.getLsbD_append]
  rw [if_neg (by omega), show lo + i - b = lo - b + i by omega]

variable (disp : BitVec 1) (off : BitVec 12) (data : Byte) (space : BitVec 2) (addr : BitVec 17)

/-- Every field of an `RD8` word. -/
theorem rd8Word_fields :
    (rd8Word disp off).extractLsb' 29 3 = 0#3 ∧ (rd8Word disp off).extractLsb' 13 16 = 0#16 ∧
      (rd8Word disp off).extractLsb' 12 1 = disp ∧ (rd8Word disp off).extractLsb' 0 12 = off := by
  have e : rd8Word disp off = (0b000#3 ++ (0#16 ++ (disp ++ off)) : BitVec (3 + (16 + (1 + 12)))) := rfl
  refine ⟨?_, ?_, ?_, ?_⟩ <;> rw [e] <;>
  · repeat first
      | (rw [extract_low]; rotate_left; · decide)
      | (rw [extract_high]; rotate_left; · decide)
    simp

/-- Every field of a `WR8` word. -/
theorem wr8Word_fields :
    (wr8Word disp off data).extractLsb' 29 3 = 1#3 ∧ (wr8Word disp off data).extractLsb' 24 5 = 0#5 ∧
      (wr8Word disp off data).extractLsb' 13 3 = 0#3 ∧ (wr8Word disp off data).extractLsb' 12 1 = disp ∧
      (wr8Word disp off data).extractLsb' 0 12 = off ∧ (wr8Word disp off data).extractLsb' 16 8 = data := by
  have e : wr8Word disp off data =
    (0b001#3 ++ (0#5 ++ (data ++ (0#3 ++ (disp ++ off)))) : BitVec (3 + (5 + (8 + (3 + (1 + 12)))))) := rfl
  refine ⟨?_, ?_, ?_, ?_, ?_, ?_⟩ <;> rw [e] <;>
  · repeat first
      | (rw [extract_low]; rotate_left; · decide)
      | (rw [extract_high]; rotate_left; · decide)
    simp

/-- Every field of a `MEMWR8` word. -/
theorem memwr8Word_fields :
    (memwr8Word space disp addr data).extractLsb' 29 3 = 4#3 ∧
      (memwr8Word space disp addr data).extractLsb' 27 2 = space ∧
      (memwr8Word space disp addr data).extractLsb' 26 1 = disp ∧
      (memwr8Word space disp addr data).extractLsb' 25 1 = 0#1 ∧
      (memwr8Word space disp addr data).extractLsb' 8 17 = addr ∧
      (memwr8Word space disp addr data).extractLsb' 0 8 = data := by
  have e : memwr8Word space disp addr data =
    (0b100#3 ++ (space ++ (disp ++ (0#1 ++ (addr ++ data)))) : BitVec (3 + (2 + (1 + (1 + (17 + 8)))))) := rfl
  refine ⟨?_, ?_, ?_, ?_, ?_, ?_⟩ <;> rw [e] <;>
  · repeat first
      | (rw [extract_low]; rotate_left; · decide)
      | (rw [extract_high]; rotate_left; · decide)
    simp

/-- Decoding an `RD8` word dispatches on its offset. -/
theorem decode_rd8Word : decode (rd8Word disp off) = .ok (decodeRd8 disp off) := by
  obtain ⟨h1, h2, h3, h4⟩ := rd8Word_fields disp off
  simp [decode, h1, h2, h3, h4]

/-- Decoding a `WR8` word dispatches on its offset. -/
theorem decode_wr8Word : decode (wr8Word disp off data) = .ok (decodeWr8 disp off data) := by
  obtain ⟨h1, h2, h3, h4, h5, h6⟩ := wr8Word_fields disp off data
  simp [decode, h1, h2, h3, h4, h5, h6]

end Sys2Proof
end

