-- ==== Sys2Proof/Laws/Sparse.lean ====
section
/-! SUPPORT. The laws of sparse data: a read after a write, and the canonical form. -/

namespace Sys2Proof.Machine

variable {α : Type}

@[simp] theorem Sparse.find_nil (a : Nat) : Sparse.find ([] : List (Nat × α)) a = none := rfl

/-- A read after a write to the same key gives the value written. -/
@[simp] theorem Sparse.find_insert_self (m : List (Nat × α)) (a : Nat) (v : α) :
    Sparse.find (Sparse.insert m a v) a = some v := by
  induction m with
  | nil => simp [Sparse.insert, Sparse.find]
  | cons p rest ih =>
    obtain ⟨k, w⟩ := p
    simp only [Sparse.insert]
    split_ifs with h1 h2
    · simp [Sparse.find]
    · simp [Sparse.find]
    · simp [Sparse.find, h2, ih]

/-- A write leaves every other key alone. -/
theorem Sparse.find_insert_ne (m : List (Nat × α)) {a b : Nat} (v : α) (h : b ≠ a) :
    Sparse.find (Sparse.insert m a v) b = Sparse.find m b := by
  induction m with
  | nil => simp [Sparse.insert, Sparse.find, h]
  | cons p rest ih =>
    obtain ⟨k, w⟩ := p
    simp only [Sparse.insert]
    split_ifs with h1 h2
    · simp [Sparse.find, h]
    · subst h2; simp [Sparse.find, h]
    · simp only [Sparse.find, ih]

/-- The canonical form as a statement about the whole list. -/
theorem Sparse.rising_iff (bound : Nat) (m : List (Nat × α)) :
    Sparse.rising bound m = true ↔ m.Pairwise (fun p q => p.1 < q.1) ∧ ∀ p ∈ m, p.1 < bound := by
  induction m with
  | nil => simp [Sparse.rising]
  | cons p rest ih =>
    obtain ⟨k, w⟩ := p
    cases rest with
    | nil => simp [Sparse.rising]
    | cons q rest =>
      obtain ⟨k', w'⟩ := q
      simp only [Sparse.rising, Bool.and_eq_true, decide_eq_true_eq, ih]
      constructor
      · rintro ⟨hk, hp, hb⟩
        have hk' := (List.pairwise_cons.1 hp).1
        refine ⟨List.pairwise_cons.2 ⟨?_, hp⟩, ?_⟩
        · intro q hq
          rcases List.mem_cons.1 hq with rfl | hq
          · exact hk
          · exact Nat.lt_trans hk (hk' q hq)
        · intro q hq
          rcases List.mem_cons.1 hq with rfl | hq
          · exact Nat.lt_trans hk (hb _ (List.mem_cons_self ..))
          · exact hb q hq
      · rintro ⟨hp, hb⟩
        have h := List.pairwise_cons.1 hp
        exact ⟨h.1 _ (List.mem_cons_self ..), h.2, fun q hq => hb q (List.mem_cons_of_mem _ hq)⟩

/-- What a write leaves in the list: the new pair or an old one. -/
theorem Sparse.mem_insert (m : List (Nat × α)) (a : Nat) (v : α) (p : Nat × α)
    (h : p ∈ Sparse.insert m a v) : p = (a, v) ∨ p ∈ m := by
  induction m with
  | nil => simpa [Sparse.insert] using h
  | cons q rest ih =>
    obtain ⟨k, w⟩ := q
    simp only [Sparse.insert] at h
    split_ifs at h with h1 h2
    · simpa using h
    · rcases List.mem_cons.1 h with h | h
      · exact .inl h
      · exact .inr (List.mem_cons_of_mem _ h)
    · rcases List.mem_cons.1 h with h | h
      · exact .inr (h ▸ List.mem_cons_self ..)
      · rcases ih h with h | h
        · exact .inl h
        · exact .inr (List.mem_cons_of_mem _ h)

/-- Every write below the bound keeps the canonical form. -/
theorem Sparse.rising_insert {bound : Nat} {m : List (Nat × α)} {a : Nat} (v : α)
    (hm : Sparse.rising bound m = true) (ha : a < bound) :
    Sparse.rising bound (Sparse.insert m a v) = true := by
  rw [Sparse.rising_iff] at hm ⊢
  obtain ⟨hp, hb⟩ := hm
  refine ⟨?_, fun p h => ?_⟩
  · induction m with
    | nil => simp [Sparse.insert]
    | cons q rest ih =>
      obtain ⟨k, w⟩ := q
      have hq := List.pairwise_cons.1 hp
      simp only [Sparse.insert]
      split_ifs with h1 h2
      · refine List.pairwise_cons.2 ⟨fun p h => ?_, hp⟩
        rcases List.mem_cons.1 h with rfl | h
        · exact h1
        · exact Nat.lt_trans h1 (hq.1 p h)
      · subst h2; exact List.pairwise_cons.2 ⟨hq.1, hq.2⟩
      · refine List.pairwise_cons.2 ⟨fun p h => ?_, ih hq.2 fun p h => hb p (List.mem_cons_of_mem _ h)⟩
        rcases Sparse.mem_insert rest a v p h with rfl | h
        · show k < a; omega
        · exact hq.1 p h
  · rcases Sparse.mem_insert m a v p h with rfl | h
    · exact ha
    · exact hb p h

end Sys2Proof.Machine
end

