-- ==== Sys2Proof/Laws/State.lean ====
section
/-! SUPPORT. The projections of the state updates: one small lemma per field per update, so that no later proof
unfolds a record update. -/

namespace Sys2Proof.Machine

variable (s : State) (d : Display)

@[simp] theorem State.refuse_config (r : RefuseReason) : (s.refuse r).config = s.config := rfl
@[simp] theorem State.refuse_phase (r : RefuseReason) : (s.refuse r).phase = s.phase := rfl
@[simp] theorem State.refuse_vcount (r : RefuseReason) : (s.refuse r).vcount = s.vcount := rfl
@[simp] theorem State.refuse_lineTicks (r : RefuseReason) : (s.refuse r).lineTicks = s.lineTicks := rfl
@[simp] theorem State.refuse_disp0 (r : RefuseReason) : (s.refuse r).disp0 = s.disp0 := rfl
@[simp] theorem State.refuse_disp1 (r : RefuseReason) : (s.refuse r).disp1 = s.disp1 := rfl
@[simp] theorem State.refuse_refused (r : RefuseReason) : (s.refuse r).refused = some r := rfl
@[simp] theorem State.refuse_outEvents (r : RefuseReason) : (s.refuse r).outEvents = s.outEvents := rfl
@[simp] theorem State.refuse_outReads (r : RefuseReason) : (s.refuse r).outReads = s.outReads := rfl
@[simp] theorem State.refuse_draws (r : RefuseReason) : (s.refuse r).draws = s.draws := rfl
@[simp] theorem State.refuse_pending (r : RefuseReason) : (s.refuse r).pending = s.pending := rfl

@[simp] theorem State.emit_config (e : Event) : (s.emit e).config = s.config := rfl
@[simp] theorem State.emit_phase (e : Event) : (s.emit e).phase = s.phase := rfl
@[simp] theorem State.emit_vcount (e : Event) : (s.emit e).vcount = s.vcount := rfl
@[simp] theorem State.emit_lineTicks (e : Event) : (s.emit e).lineTicks = s.lineTicks := rfl
@[simp] theorem State.emit_disp0 (e : Event) : (s.emit e).disp0 = s.disp0 := rfl
@[simp] theorem State.emit_disp1 (e : Event) : (s.emit e).disp1 = s.disp1 := rfl
@[simp] theorem State.emit_refused (e : Event) : (s.emit e).refused = s.refused := rfl
@[simp] theorem State.emit_outEvents (e : Event) : (s.emit e).outEvents = s.outEvents ++ [e] := rfl
@[simp] theorem State.emit_outReads (e : Event) : (s.emit e).outReads = s.outReads := rfl
@[simp] theorem State.emit_draws (e : Event) : (s.emit e).draws = s.draws := rfl
@[simp] theorem State.emit_pending (e : Event) : (s.emit e).pending = s.pending := rfl

@[simp] theorem State.emitIrq_config (e : Event) (en : Display → Bool) : (s.emitIrq e en).config = s.config := rfl
@[simp] theorem State.emitIrq_phase (e : Event) (en : Display → Bool) : (s.emitIrq e en).phase = s.phase := rfl
@[simp] theorem State.emitIrq_vcount (e : Event) (en : Display → Bool) : (s.emitIrq e en).vcount = s.vcount := rfl
@[simp] theorem State.emitIrq_lineTicks (e : Event) (en : Display → Bool) : (s.emitIrq e en).lineTicks = s.lineTicks := rfl
@[simp] theorem State.emitIrq_disp0 (e : Event) (en : Display → Bool) : (s.emitIrq e en).disp0 = s.disp0 := rfl
@[simp] theorem State.emitIrq_disp1 (e : Event) (en : Display → Bool) : (s.emitIrq e en).disp1 = s.disp1 := rfl
@[simp] theorem State.emitIrq_refused (e : Event) (en : Display → Bool) : (s.emitIrq e en).refused = s.refused := rfl
@[simp] theorem State.emitIrq_outEvents (e : Event) (en : Display → Bool) : (s.emitIrq e en).outEvents = s.outEvents ++ (s.irqDisplays.filter en).map fun _ => e := rfl
@[simp] theorem State.emitIrq_outReads (e : Event) (en : Display → Bool) : (s.emitIrq e en).outReads = s.outReads := rfl
@[simp] theorem State.emitIrq_draws (e : Event) (en : Display → Bool) : (s.emitIrq e en).draws = s.draws := rfl
@[simp] theorem State.emitIrq_pending (e : Event) (en : Display → Bool) : (s.emitIrq e en).pending = s.pending := rfl

@[simp] theorem State.output_config (r : ReadOut) : (s.output r).config = s.config := rfl
@[simp] theorem State.output_phase (r : ReadOut) : (s.output r).phase = s.phase := rfl
@[simp] theorem State.output_vcount (r : ReadOut) : (s.output r).vcount = s.vcount := rfl
@[simp] theorem State.output_lineTicks (r : ReadOut) : (s.output r).lineTicks = s.lineTicks := rfl
@[simp] theorem State.output_disp0 (r : ReadOut) : (s.output r).disp0 = s.disp0 := rfl
@[simp] theorem State.output_disp1 (r : ReadOut) : (s.output r).disp1 = s.disp1 := rfl
@[simp] theorem State.output_refused (r : ReadOut) : (s.output r).refused = s.refused := rfl
@[simp] theorem State.output_outEvents (r : ReadOut) : (s.output r).outEvents = s.outEvents := rfl
@[simp] theorem State.output_outReads (r : ReadOut) : (s.output r).outReads = s.outReads ++ [r] := rfl
@[simp] theorem State.output_draws (r : ReadOut) : (s.output r).draws = s.draws := rfl
@[simp] theorem State.output_pending (r : ReadOut) : (s.output r).pending = s.pending := rfl

@[simp] theorem State.outputDrawByte_config : (s.outputDrawByte).config = s.config := rfl
@[simp] theorem State.outputDrawByte_phase : (s.outputDrawByte).phase = s.phase := rfl
@[simp] theorem State.outputDrawByte_vcount : (s.outputDrawByte).vcount = s.vcount := rfl
@[simp] theorem State.outputDrawByte_lineTicks : (s.outputDrawByte).lineTicks = s.lineTicks := rfl
@[simp] theorem State.outputDrawByte_disp0 : (s.outputDrawByte).disp0 = s.disp0 := rfl
@[simp] theorem State.outputDrawByte_disp1 : (s.outputDrawByte).disp1 = s.disp1 := rfl
@[simp] theorem State.outputDrawByte_refused : (s.outputDrawByte).refused = s.refused := rfl
@[simp] theorem State.outputDrawByte_outEvents : (s.outputDrawByte).outEvents = s.outEvents := rfl
@[simp] theorem State.outputDrawByte_outReads : (s.outputDrawByte).outReads = s.outReads ++ [.byte (Config.drawByte s.draws)] := rfl
@[simp] theorem State.outputDrawByte_draws : (s.outputDrawByte).draws = s.draws + 1 := rfl
@[simp] theorem State.outputDrawByte_pending : (s.outputDrawByte).pending = s.pending := rfl

@[simp] theorem State.outputDrawPixel_config : (s.outputDrawPixel).config = s.config := rfl
@[simp] theorem State.outputDrawPixel_phase : (s.outputDrawPixel).phase = s.phase := rfl
@[simp] theorem State.outputDrawPixel_vcount : (s.outputDrawPixel).vcount = s.vcount := rfl
@[simp] theorem State.outputDrawPixel_lineTicks : (s.outputDrawPixel).lineTicks = s.lineTicks := rfl
@[simp] theorem State.outputDrawPixel_disp0 : (s.outputDrawPixel).disp0 = s.disp0 := rfl
@[simp] theorem State.outputDrawPixel_disp1 : (s.outputDrawPixel).disp1 = s.disp1 := rfl
@[simp] theorem State.outputDrawPixel_refused : (s.outputDrawPixel).refused = s.refused := rfl
@[simp] theorem State.outputDrawPixel_outEvents : (s.outputDrawPixel).outEvents = s.outEvents := rfl
@[simp] theorem State.outputDrawPixel_outReads : (s.outputDrawPixel).outReads = s.outReads ++ [.pixel (Config.drawPixel s.draws)] := rfl
@[simp] theorem State.outputDrawPixel_draws : (s.outputDrawPixel).draws = s.draws + 1 := rfl
@[simp] theorem State.outputDrawPixel_pending : (s.outputDrawPixel).pending = s.pending := rfl

@[simp] theorem State.modifyDisplay_config (b : BitVec 1) (f : Display → Display) : (s.modifyDisplay b f).config = s.config := by
  unfold State.modifyDisplay; split <;> rfl
@[simp] theorem State.modifyDisplay_phase (b : BitVec 1) (f : Display → Display) : (s.modifyDisplay b f).phase = s.phase := by
  unfold State.modifyDisplay; split <;> rfl
@[simp] theorem State.modifyDisplay_vcount (b : BitVec 1) (f : Display → Display) : (s.modifyDisplay b f).vcount = s.vcount := by
  unfold State.modifyDisplay; split <;> rfl
@[simp] theorem State.modifyDisplay_lineTicks (b : BitVec 1) (f : Display → Display) : (s.modifyDisplay b f).lineTicks = s.lineTicks := by
  unfold State.modifyDisplay; split <;> rfl
@[simp] theorem State.modifyDisplay_refused (b : BitVec 1) (f : Display → Display) : (s.modifyDisplay b f).refused = s.refused := by
  unfold State.modifyDisplay; split <;> rfl
@[simp] theorem State.modifyDisplay_outEvents (b : BitVec 1) (f : Display → Display) : (s.modifyDisplay b f).outEvents = s.outEvents := by
  unfold State.modifyDisplay; split <;> rfl
@[simp] theorem State.modifyDisplay_outReads (b : BitVec 1) (f : Display → Display) : (s.modifyDisplay b f).outReads = s.outReads := by
  unfold State.modifyDisplay; split <;> rfl
@[simp] theorem State.modifyDisplay_draws (b : BitVec 1) (f : Display → Display) : (s.modifyDisplay b f).draws = s.draws := by
  unfold State.modifyDisplay; split <;> rfl
@[simp] theorem State.modifyDisplay_pending (b : BitVec 1) (f : Display → Display) : (s.modifyDisplay b f).pending = s.pending := by
  unfold State.modifyDisplay; split <;> rfl

@[simp] theorem State.mapDisplays_config (f : Display → Display) : (s.mapDisplays f).config = s.config := by
  unfold State.mapDisplays; split <;> rfl
@[simp] theorem State.mapDisplays_phase (f : Display → Display) : (s.mapDisplays f).phase = s.phase := by
  unfold State.mapDisplays; split <;> rfl
@[simp] theorem State.mapDisplays_vcount (f : Display → Display) : (s.mapDisplays f).vcount = s.vcount := by
  unfold State.mapDisplays; split <;> rfl
@[simp] theorem State.mapDisplays_lineTicks (f : Display → Display) : (s.mapDisplays f).lineTicks = s.lineTicks := by
  unfold State.mapDisplays; split <;> rfl
@[simp] theorem State.mapDisplays_disp0 (f : Display → Display) : (s.mapDisplays f).disp0 = f s.disp0 := by
  unfold State.mapDisplays; split <;> rfl
@[simp] theorem State.mapDisplays_refused (f : Display → Display) : (s.mapDisplays f).refused = s.refused := by
  unfold State.mapDisplays; split <;> rfl
@[simp] theorem State.mapDisplays_outEvents (f : Display → Display) : (s.mapDisplays f).outEvents = s.outEvents := by
  unfold State.mapDisplays; split <;> rfl
@[simp] theorem State.mapDisplays_outReads (f : Display → Display) : (s.mapDisplays f).outReads = s.outReads := by
  unfold State.mapDisplays; split <;> rfl
@[simp] theorem State.mapDisplays_draws (f : Display → Display) : (s.mapDisplays f).draws = s.draws := by
  unfold State.mapDisplays; split <;> rfl
@[simp] theorem State.mapDisplays_pending (f : Display → Display) : (s.mapDisplays f).pending = s.pending := by
  unfold State.mapDisplays; split <;> rfl

@[simp] theorem State.modifyDisplay_zero (f : Display → Display) :
    s.modifyDisplay 0#1 f = { s with disp0 := f s.disp0 } := rfl

@[simp] theorem State.modifyDisplay_one (f : Display → Display) :
    s.modifyDisplay 1#1 f = { s with disp1 := f s.disp1 } := rfl

@[simp] theorem State.display_zero : s.display 0#1 = s.disp0 := rfl

@[simp] theorem State.display_one : s.display 1#1 = s.disp1 := rfl

/-- In SINGLE every change of the display instances is a change of instance 0. -/
theorem State.mapDisplays_single (f : Display → Display) (h : s.config.variant = .single) :
    s.mapDisplays f = { s with disp0 := f s.disp0 } := by
  simp [State.mapDisplays, h]

@[simp] theorem Display.storeByte_index (r : Reg) (k : Nat) (v : Byte) : (d.storeByte r k v).index = d.index := rfl
@[simp] theorem Display.storeByte_regs (r : Reg) (k : Nat) (v : Byte) : (d.storeByte r k v).regs = d.regs.set r (mergeByte (d.regs.get r) k v r.wmask) := rfl
@[simp] theorem Display.storeByte_bg2xInt (r : Reg) (k : Nat) (v : Byte) : (d.storeByte r k v).bg2xInt = d.bg2xInt := rfl
@[simp] theorem Display.storeByte_bg2yInt (r : Reg) (k : Nat) (v : Byte) : (d.storeByte r k v).bg2yInt = d.bg2yInt := rfl
@[simp] theorem Display.storeByte_bg3xInt (r : Reg) (k : Nat) (v : Byte) : (d.storeByte r k v).bg3xInt = d.bg3xInt := rfl
@[simp] theorem Display.storeByte_bg3yInt (r : Reg) (k : Nat) (v : Byte) : (d.storeByte r k v).bg3yInt = d.bg3yInt := rfl
@[simp] theorem Display.storeByte_objBuf (r : Reg) (k : Nat) (v : Byte) : (d.storeByte r k v).objBuf = d.objBuf := rfl
@[simp] theorem Display.storeByte_objWin (r : Reg) (k : Nat) (v : Byte) : (d.storeByte r k v).objWin = d.objWin := rfl
@[simp] theorem Display.storeByte_objBufLine (r : Reg) (k : Nat) (v : Byte) : (d.storeByte r k v).objBufLine = d.objBufLine := rfl
@[simp] theorem Display.storeByte_buf0 (r : Reg) (k : Nat) (v : Byte) : (d.storeByte r k v).buf0 = d.buf0 := rfl
@[simp] theorem Display.storeByte_buf1 (r : Reg) (k : Nat) (v : Byte) : (d.storeByte r k v).buf1 = d.buf1 := rfl
@[simp] theorem Display.storeByte_back (r : Reg) (k : Nat) (v : Byte) : (d.storeByte r k v).back = d.back := rfl
@[simp] theorem Display.storeByte_frameReady (r : Reg) (k : Nat) (v : Byte) : (d.storeByte r k v).frameReady = d.frameReady := rfl
@[simp] theorem Display.storeByte_frameCount (r : Reg) (k : Nat) (v : Byte) : (d.storeByte r k v).frameCount = d.frameCount := rfl
@[simp] theorem Display.storeByte_pal (r : Reg) (k : Nat) (v : Byte) : (d.storeByte r k v).pal = d.pal := rfl
@[simp] theorem Display.storeByte_vram (r : Reg) (k : Nat) (v : Byte) : (d.storeByte r k v).vram = d.vram := rfl
@[simp] theorem Display.storeByte_oam (r : Reg) (k : Nat) (v : Byte) : (d.storeByte r k v).oam = d.oam := rfl

@[simp] theorem Display.swap_index : (d.swap).index = d.index := rfl
@[simp] theorem Display.swap_regs : (d.swap).regs = d.regs := rfl
@[simp] theorem Display.swap_bg2xInt : (d.swap).bg2xInt = d.bg2xInt := rfl
@[simp] theorem Display.swap_bg2yInt : (d.swap).bg2yInt = d.bg2yInt := rfl
@[simp] theorem Display.swap_bg3xInt : (d.swap).bg3xInt = d.bg3xInt := rfl
@[simp] theorem Display.swap_bg3yInt : (d.swap).bg3yInt = d.bg3yInt := rfl
@[simp] theorem Display.swap_objBuf : (d.swap).objBuf = d.objBuf := rfl
@[simp] theorem Display.swap_objWin : (d.swap).objWin = d.objWin := rfl
@[simp] theorem Display.swap_objBufLine : (d.swap).objBufLine = d.objBufLine := rfl
@[simp] theorem Display.swap_buf0 : (d.swap).buf0 = d.buf0 := rfl
@[simp] theorem Display.swap_buf1 : (d.swap).buf1 = d.buf1 := rfl
@[simp] theorem Display.swap_back : (d.swap).back = 1 - d.back := rfl
@[simp] theorem Display.swap_frameReady : (d.swap).frameReady = d.frameReady := rfl
@[simp] theorem Display.swap_frameCount : (d.swap).frameCount = d.frameCount := rfl
@[simp] theorem Display.swap_pal : (d.swap).pal = d.pal := rfl
@[simp] theorem Display.swap_vram : (d.swap).vram = d.vram := rfl
@[simp] theorem Display.swap_oam : (d.swap).oam = d.oam := rfl

@[simp] theorem Display.affineStep_index : (d.affineStep).index = d.index := rfl
@[simp] theorem Display.affineStep_regs : (d.affineStep).regs = d.regs := rfl
@[simp] theorem Display.affineStep_objBuf : (d.affineStep).objBuf = d.objBuf := rfl
@[simp] theorem Display.affineStep_objWin : (d.affineStep).objWin = d.objWin := rfl
@[simp] theorem Display.affineStep_objBufLine : (d.affineStep).objBufLine = d.objBufLine := rfl
@[simp] theorem Display.affineStep_buf0 : (d.affineStep).buf0 = d.buf0 := rfl
@[simp] theorem Display.affineStep_buf1 : (d.affineStep).buf1 = d.buf1 := rfl
@[simp] theorem Display.affineStep_back : (d.affineStep).back = d.back := rfl
@[simp] theorem Display.affineStep_frameReady : (d.affineStep).frameReady = d.frameReady := rfl
@[simp] theorem Display.affineStep_frameCount : (d.affineStep).frameCount = d.frameCount := rfl
@[simp] theorem Display.affineStep_pal : (d.affineStep).pal = d.pal := rfl
@[simp] theorem Display.affineStep_vram : (d.affineStep).vram = d.vram := rfl
@[simp] theorem Display.affineStep_oam : (d.affineStep).oam = d.oam := rfl

@[simp] theorem Display.reloadAffine_index : (d.reloadAffine).index = d.index := rfl
@[simp] theorem Display.reloadAffine_regs : (d.reloadAffine).regs = d.regs := rfl
@[simp] theorem Display.reloadAffine_bg2xInt : (d.reloadAffine).bg2xInt = d.regs.bg2x.setWidth 28 := rfl
@[simp] theorem Display.reloadAffine_bg2yInt : (d.reloadAffine).bg2yInt = d.regs.bg2y.setWidth 28 := rfl
@[simp] theorem Display.reloadAffine_bg3xInt : (d.reloadAffine).bg3xInt = d.regs.bg3x.setWidth 28 := rfl
@[simp] theorem Display.reloadAffine_bg3yInt : (d.reloadAffine).bg3yInt = d.regs.bg3y.setWidth 28 := rfl
@[simp] theorem Display.reloadAffine_objBuf : (d.reloadAffine).objBuf = d.objBuf := rfl
@[simp] theorem Display.reloadAffine_objWin : (d.reloadAffine).objWin = d.objWin := rfl
@[simp] theorem Display.reloadAffine_objBufLine : (d.reloadAffine).objBufLine = d.objBufLine := rfl
@[simp] theorem Display.reloadAffine_buf0 : (d.reloadAffine).buf0 = d.buf0 := rfl
@[simp] theorem Display.reloadAffine_buf1 : (d.reloadAffine).buf1 = d.buf1 := rfl
@[simp] theorem Display.reloadAffine_back : (d.reloadAffine).back = d.back := rfl
@[simp] theorem Display.reloadAffine_frameReady : (d.reloadAffine).frameReady = d.frameReady := rfl
@[simp] theorem Display.reloadAffine_frameCount : (d.reloadAffine).frameCount = d.frameCount := rfl
@[simp] theorem Display.reloadAffine_pal : (d.reloadAffine).pal = d.pal := rfl
@[simp] theorem Display.reloadAffine_vram : (d.reloadAffine).vram = d.vram := rfl
@[simp] theorem Display.reloadAffine_oam : (d.reloadAffine).oam = d.oam := rfl

@[simp] theorem Display.vblankEntry_index : (d.vblankEntry).index = d.index := rfl
@[simp] theorem Display.vblankEntry_regs : (d.vblankEntry).regs = d.regs := rfl
@[simp] theorem Display.vblankEntry_bg2xInt : (d.vblankEntry).bg2xInt = d.regs.bg2x.setWidth 28 := rfl
@[simp] theorem Display.vblankEntry_bg2yInt : (d.vblankEntry).bg2yInt = d.regs.bg2y.setWidth 28 := rfl
@[simp] theorem Display.vblankEntry_bg3xInt : (d.vblankEntry).bg3xInt = d.regs.bg3x.setWidth 28 := rfl
@[simp] theorem Display.vblankEntry_bg3yInt : (d.vblankEntry).bg3yInt = d.regs.bg3y.setWidth 28 := rfl
@[simp] theorem Display.vblankEntry_objBuf : (d.vblankEntry).objBuf = d.objBuf := rfl
@[simp] theorem Display.vblankEntry_objWin : (d.vblankEntry).objWin = d.objWin := rfl
@[simp] theorem Display.vblankEntry_objBufLine : (d.vblankEntry).objBufLine = d.objBufLine := rfl
@[simp] theorem Display.vblankEntry_buf0 : (d.vblankEntry).buf0 = d.buf0 := rfl
@[simp] theorem Display.vblankEntry_buf1 : (d.vblankEntry).buf1 = d.buf1 := rfl
@[simp] theorem Display.vblankEntry_back : (d.vblankEntry).back = 1 - d.back := rfl
@[simp] theorem Display.vblankEntry_frameReady : (d.vblankEntry).frameReady = true := rfl
@[simp] theorem Display.vblankEntry_frameCount : (d.vblankEntry).frameCount = d.frameCount + 1 := rfl
@[simp] theorem Display.vblankEntry_pal : (d.vblankEntry).pal = d.pal := rfl
@[simp] theorem Display.vblankEntry_vram : (d.vblankEntry).vram = d.vram := rfl
@[simp] theorem Display.vblankEntry_oam : (d.vblankEntry).oam = d.oam := rfl

@[simp] theorem Display.clearObj_index (c : Config) (t : Nat) : (Display.clearObj c d t).index = d.index := rfl
@[simp] theorem Display.clearObj_regs (c : Config) (t : Nat) : (Display.clearObj c d t).regs = d.regs := rfl
@[simp] theorem Display.clearObj_bg2xInt (c : Config) (t : Nat) : (Display.clearObj c d t).bg2xInt = d.bg2xInt := rfl
@[simp] theorem Display.clearObj_bg2yInt (c : Config) (t : Nat) : (Display.clearObj c d t).bg2yInt = d.bg2yInt := rfl
@[simp] theorem Display.clearObj_bg3xInt (c : Config) (t : Nat) : (Display.clearObj c d t).bg3xInt = d.bg3xInt := rfl
@[simp] theorem Display.clearObj_bg3yInt (c : Config) (t : Nat) : (Display.clearObj c d t).bg3yInt = d.bg3yInt := rfl
@[simp] theorem Display.clearObj_objBuf (c : Config) (t : Nat) : (Display.clearObj c d t).objBuf = List.replicate c.screenW none := rfl
@[simp] theorem Display.clearObj_objWin (c : Config) (t : Nat) : (Display.clearObj c d t).objWin = List.replicate c.screenW false := rfl
@[simp] theorem Display.clearObj_objBufLine (c : Config) (t : Nat) : (Display.clearObj c d t).objBufLine = some t := rfl
@[simp] theorem Display.clearObj_buf0 (c : Config) (t : Nat) : (Display.clearObj c d t).buf0 = d.buf0 := rfl
@[simp] theorem Display.clearObj_buf1 (c : Config) (t : Nat) : (Display.clearObj c d t).buf1 = d.buf1 := rfl
@[simp] theorem Display.clearObj_back (c : Config) (t : Nat) : (Display.clearObj c d t).back = d.back := rfl
@[simp] theorem Display.clearObj_frameReady (c : Config) (t : Nat) : (Display.clearObj c d t).frameReady = d.frameReady := rfl
@[simp] theorem Display.clearObj_frameCount (c : Config) (t : Nat) : (Display.clearObj c d t).frameCount = d.frameCount := rfl
@[simp] theorem Display.clearObj_pal (c : Config) (t : Nat) : (Display.clearObj c d t).pal = d.pal := rfl
@[simp] theorem Display.clearObj_vram (c : Config) (t : Nat) : (Display.clearObj c d t).vram = d.vram := rfl
@[simp] theorem Display.clearObj_oam (c : Config) (t : Nat) : (Display.clearObj c d t).oam = d.oam := rfl

@[simp] theorem Display.writeByte_index (sp : Space) (a : Nat) (v : Byte) : (d.writeByte sp a v).index = d.index := by
  cases sp <;> rfl
@[simp] theorem Display.writeByte_regs (sp : Space) (a : Nat) (v : Byte) : (d.writeByte sp a v).regs = d.regs := by
  cases sp <;> rfl
@[simp] theorem Display.writeByte_bg2xInt (sp : Space) (a : Nat) (v : Byte) : (d.writeByte sp a v).bg2xInt = d.bg2xInt := by
  cases sp <;> rfl
@[simp] theorem Display.writeByte_bg2yInt (sp : Space) (a : Nat) (v : Byte) : (d.writeByte sp a v).bg2yInt = d.bg2yInt := by
  cases sp <;> rfl
@[simp] theorem Display.writeByte_bg3xInt (sp : Space) (a : Nat) (v : Byte) : (d.writeByte sp a v).bg3xInt = d.bg3xInt := by
  cases sp <;> rfl
@[simp] theorem Display.writeByte_bg3yInt (sp : Space) (a : Nat) (v : Byte) : (d.writeByte sp a v).bg3yInt = d.bg3yInt := by
  cases sp <;> rfl
@[simp] theorem Display.writeByte_objBuf (sp : Space) (a : Nat) (v : Byte) : (d.writeByte sp a v).objBuf = d.objBuf := by
  cases sp <;> rfl
@[simp] theorem Display.writeByte_objWin (sp : Space) (a : Nat) (v : Byte) : (d.writeByte sp a v).objWin = d.objWin := by
  cases sp <;> rfl
@[simp] theorem Display.writeByte_objBufLine (sp : Space) (a : Nat) (v : Byte) : (d.writeByte sp a v).objBufLine = d.objBufLine := by
  cases sp <;> rfl
@[simp] theorem Display.writeByte_buf0 (sp : Space) (a : Nat) (v : Byte) : (d.writeByte sp a v).buf0 = d.buf0 := by
  cases sp <;> rfl
@[simp] theorem Display.writeByte_buf1 (sp : Space) (a : Nat) (v : Byte) : (d.writeByte sp a v).buf1 = d.buf1 := by
  cases sp <;> rfl
@[simp] theorem Display.writeByte_back (sp : Space) (a : Nat) (v : Byte) : (d.writeByte sp a v).back = d.back := by
  cases sp <;> rfl
@[simp] theorem Display.writeByte_frameReady (sp : Space) (a : Nat) (v : Byte) : (d.writeByte sp a v).frameReady = d.frameReady := by
  cases sp <;> rfl
@[simp] theorem Display.writeByte_frameCount (sp : Space) (a : Nat) (v : Byte) : (d.writeByte sp a v).frameCount = d.frameCount := by
  cases sp <;> rfl

@[simp] theorem Display.writeRow_index (l : Nat) (row : List Color) : (d.writeRow l row).index = d.index := by
  unfold Display.writeRow; split <;> rfl
@[simp] theorem Display.writeRow_regs (l : Nat) (row : List Color) : (d.writeRow l row).regs = d.regs := by
  unfold Display.writeRow; split <;> rfl
@[simp] theorem Display.writeRow_bg2xInt (l : Nat) (row : List Color) : (d.writeRow l row).bg2xInt = d.bg2xInt := by
  unfold Display.writeRow; split <;> rfl
@[simp] theorem Display.writeRow_bg2yInt (l : Nat) (row : List Color) : (d.writeRow l row).bg2yInt = d.bg2yInt := by
  unfold Display.writeRow; split <;> rfl
@[simp] theorem Display.writeRow_bg3xInt (l : Nat) (row : List Color) : (d.writeRow l row).bg3xInt = d.bg3xInt := by
  unfold Display.writeRow; split <;> rfl
@[simp] theorem Display.writeRow_bg3yInt (l : Nat) (row : List Color) : (d.writeRow l row).bg3yInt = d.bg3yInt := by
  unfold Display.writeRow; split <;> rfl
@[simp] theorem Display.writeRow_objBuf (l : Nat) (row : List Color) : (d.writeRow l row).objBuf = d.objBuf := by
  unfold Display.writeRow; split <;> rfl
@[simp] theorem Display.writeRow_objWin (l : Nat) (row : List Color) : (d.writeRow l row).objWin = d.objWin := by
  unfold Display.writeRow; split <;> rfl
@[simp] theorem Display.writeRow_objBufLine (l : Nat) (row : List Color) : (d.writeRow l row).objBufLine = d.objBufLine := by
  unfold Display.writeRow; split <;> rfl
@[simp] theorem Display.writeRow_back (l : Nat) (row : List Color) : (d.writeRow l row).back = d.back := by
  unfold Display.writeRow; split <;> rfl
@[simp] theorem Display.writeRow_frameReady (l : Nat) (row : List Color) : (d.writeRow l row).frameReady = d.frameReady := by
  unfold Display.writeRow; split <;> rfl
@[simp] theorem Display.writeRow_frameCount (l : Nat) (row : List Color) : (d.writeRow l row).frameCount = d.frameCount := by
  unfold Display.writeRow; split <;> rfl
@[simp] theorem Display.writeRow_pal (l : Nat) (row : List Color) : (d.writeRow l row).pal = d.pal := by
  unfold Display.writeRow; split <;> rfl
@[simp] theorem Display.writeRow_vram (l : Nat) (row : List Color) : (d.writeRow l row).vram = d.vram := by
  unfold Display.writeRow; split <;> rfl
@[simp] theorem Display.writeRow_oam (l : Nat) (row : List Color) : (d.writeRow l row).oam = d.oam := by
  unfold Display.writeRow; split <;> rfl

@[simp] theorem Display.reloadRef_index (r : Reg) : (d.reloadRef r).index = d.index := by
  cases r <;> rfl
@[simp] theorem Display.reloadRef_regs (r : Reg) : (d.reloadRef r).regs = d.regs := by
  cases r <;> rfl
@[simp] theorem Display.reloadRef_objBuf (r : Reg) : (d.reloadRef r).objBuf = d.objBuf := by
  cases r <;> rfl
@[simp] theorem Display.reloadRef_objWin (r : Reg) : (d.reloadRef r).objWin = d.objWin := by
  cases r <;> rfl
@[simp] theorem Display.reloadRef_objBufLine (r : Reg) : (d.reloadRef r).objBufLine = d.objBufLine := by
  cases r <;> rfl
@[simp] theorem Display.reloadRef_buf0 (r : Reg) : (d.reloadRef r).buf0 = d.buf0 := by
  cases r <;> rfl
@[simp] theorem Display.reloadRef_buf1 (r : Reg) : (d.reloadRef r).buf1 = d.buf1 := by
  cases r <;> rfl
@[simp] theorem Display.reloadRef_back (r : Reg) : (d.reloadRef r).back = d.back := by
  cases r <;> rfl
@[simp] theorem Display.reloadRef_frameReady (r : Reg) : (d.reloadRef r).frameReady = d.frameReady := by
  cases r <;> rfl
@[simp] theorem Display.reloadRef_frameCount (r : Reg) : (d.reloadRef r).frameCount = d.frameCount := by
  cases r <;> rfl
@[simp] theorem Display.reloadRef_pal (r : Reg) : (d.reloadRef r).pal = d.pal := by
  cases r <;> rfl
@[simp] theorem Display.reloadRef_vram (r : Reg) : (d.reloadRef r).vram = d.vram := by
  cases r <;> rfl
@[simp] theorem Display.reloadRef_oam (r : Reg) : (d.reloadRef r).oam = d.oam := by
  cases r <;> rfl

/-- A register reads back what was stored, a 16-bit register its low half. -/
theorem Regs.get_set_self (r : Regs) (reg : Reg) (v : BitVec 32) (h : v &&& reg.wmask = v) :
    (r.set reg v).get reg = v := by
  have low : ∀ m : BitVec 32, m.toNat < 2 ^ 16 → v &&& m = v → (v.setWidth 16).setWidth 32 = v := by
    intro m hm hv
    have : v.toNat < 2 ^ 16 := by
      rw [← hv, BitVec.toNat_and]
      exact Nat.lt_of_le_of_lt Nat.and_le_right hm
    apply BitVec.eq_of_toNat_eq
    simp only [BitVec.toNat_setWidth]
    omega
  cases reg <;> first | rfl | exact low _ (by decide) h

/-- Storing one register leaves every other one alone. -/
theorem Regs.get_set_ne (r : Regs) {reg reg' : Reg} (v : BitVec 32) (h : reg' ≠ reg) :
    (r.set reg v).get reg' = r.get reg' := by
  cases reg <;> cases reg' <;> first | rfl | exact absurd rfl h

/-- The merged value of a byte write lies within the write mask. -/
theorem mergeByte_masked (old : BitVec 32) (k : Nat) (v : Byte) (m : BitVec 32) :
    mergeByte old k v m &&& m = mergeByte old k v m := by
  simp [mergeByte, BitVec.and_assoc]

/-- After a byte write a register holds the merged value (40_register_port.md R300). -/
theorem Display.storeByte_get_self (d : Display) (reg : Reg) (k : Nat) (v : Byte) :
    (d.storeByte reg k v).regs.get reg = mergeByte (d.regs.get reg) k v reg.wmask :=
  Regs.get_set_self _ _ _ (mergeByte_masked ..)

/-- A byte write of one register leaves every other one alone. -/
theorem Display.storeByte_get_ne (d : Display) {reg reg' : Reg} (k : Nat) (v : Byte) (h : reg' ≠ reg) :
    (d.storeByte reg k v).regs.get reg' = d.regs.get reg' :=
  Regs.get_set_ne _ _ h

end Sys2Proof.Machine
end

