-- ==== Sys2Proof/Laws/Ops.lean ====
section
/-! SUPPORT. What each shared operation can do, said once: the frame of a transaction, the shared register accesses, the
memories, the output image, the sprite pre-render and the ticks. -/

namespace Sys2Proof.Machine

variable {s : State} {legal : Bool} {drawn body : State → State} {disp : BitVec 1}

/-! ### The frame of a transaction -/

/-- Everything `transact` can do. -/
theorem State.transact_cases (s : State) (legal : Bool) (body : State → State) :
    (s.refused ≠ none ∧ s.transact legal body = s) ∨
      (s.refused = none ∧ legal = true ∧ s.transact legal body = body s) ∨
      (s.refused = none ∧ legal = false ∧ s.transact legal body = s.refuse .badPortWord) := by
  unfold State.transact
  cases h : s.refused <;> cases legal <;> simp

/-- Everything `transactRead` can do. -/
theorem State.transactRead_cases (s : State) (legal : Bool) (drawn body : State → State) :
    (s.refused ≠ none ∧ legal = true ∧ s.transactRead legal drawn body = drawn s) ∨
      (s.refused ≠ none ∧ legal = false ∧ s.transactRead legal drawn body = s) ∨
      (s.refused = none ∧ legal = true ∧ s.transactRead legal drawn body = body s) ∨
      (s.refused = none ∧ legal = false ∧ s.transactRead legal drawn body = s.refuse .badPortWord) := by
  unfold State.transactRead
  cases h : s.refused <;> cases legal <;> simp

theorem State.transact_run (h : s.refused = none) (hl : legal = true) : s.transact legal body = body s := by
  simp [State.transact, h, hl]

theorem State.transact_marked (h : s.refused ≠ none) : s.transact legal body = s := by
  simp [State.transact, Option.isSome_iff_ne_none.2 h]

theorem State.transact_bad (h : s.refused = none) (hl : legal = false) :
    s.transact legal body = s.refuse .badPortWord := by
  simp [State.transact, h, hl]

theorem State.transactRead_run (h : s.refused = none) (hl : legal = true) :
    s.transactRead legal drawn body = body s := by
  simp [State.transactRead, h, hl]

theorem State.transactRead_marked (h : s.refused ≠ none) (hl : legal = true) :
    s.transactRead legal drawn body = drawn s := by
  simp [State.transactRead, Option.isSome_iff_ne_none.2 h, hl]

theorem State.registerAccess_single (h : s.config.variant = .single) : s.registerAccess body = body s := by
  simp [State.registerAccess, h]

theorem State.registerAccess_dual (h : s.config.variant = .dual) :
    s.registerAccess body = s.refuse .dualUnmodelled := by
  simp [State.registerAccess, h]

/-- Display instance 0 always exists. -/
@[simp] theorem State.dispExists_zero (s : State) : s.dispExists 0#1 = true := by
  unfold State.dispExists Config.numDisplays
  cases s.config.variant <;> rfl

/-- In SINGLE display instance 1 does not exist. -/
theorem State.dispExists_one (h : s.config.variant = .single) : s.dispExists 1#1 = false := by
  simp [State.dispExists, Config.numDisplays, h]

/-- A `WR8` to an existing display of a SINGLE machine with no refusal recorded. -/
theorem State.writeReg_run {f : Display → Display} (h : s.refused = none) (hv : s.config.variant = .single) :
    s.writeReg 0#1 f = { s with disp0 := f s.disp0 } := by
  rw [State.writeReg, State.transact_run h (State.dispExists_zero s), State.registerAccess_single hv, State.modifyDisplay_zero]

/-- An `RD8` of a readable register of a SINGLE machine with no refusal recorded. -/
theorem State.readReg_run {k : Nat} {val : Display → BitVec 32} (h : s.refused = none)
    (hv : s.config.variant = .single) : s.readReg 0#1 k val = s.output (.byte (byteOf (val s.disp0) k)) := by
  rw [State.readReg, State.transactRead_run h (State.dispExists_zero s), State.registerAccess_single hv, State.display_zero]

/-- An `RD8` that returns a draw, on a SINGLE machine with no refusal recorded. -/
theorem State.readDraw_run (h : s.refused = none) (hv : s.config.variant = .single) :
    s.readDraw 0#1 = s.outputDrawByte := by
  rw [State.readDraw, State.transactRead_run h (State.dispExists_zero s), State.registerAccess_single hv]

/-- A word R210 refuses outright, with no refusal recorded before. -/
theorem State.badWord_run (h : s.refused = none) : s.badWord = s.refuse .badPortWord :=
  State.transact_bad h rfl

/-! ### External memories -/

variable {d : Display}

@[simp] theorem Display.memory_writeByte_self (sp : Space) (a : Nat) (v : Byte) :
    (d.writeByte sp a v).memory sp = Sparse.insert (d.memory sp) a v := by
  cases sp <;> rfl

theorem Display.memory_writeByte_ne {sp sp' : Space} (a : Nat) (v : Byte) (h : sp' ≠ sp) :
    (d.writeByte sp a v).memory sp' = d.memory sp' := by
  cases sp <;> cases sp' <;> first | rfl | exact absurd rfl h

/-- A byte just written reads back. -/
@[simp] theorem Display.readByte_writeByte_self (sp : Space) (a : Nat) (v : Byte) :
    (d.writeByte sp a v).readByte sp a = v := by
  simp [Display.readByte]

/-- A write leaves every other byte of every memory alone. -/
theorem Display.readByte_writeByte_ne {sp sp' : Space} {a a' : Nat} (v : Byte) (h : sp' ≠ sp ∨ a' ≠ a) :
    (d.writeByte sp a v).readByte sp' a' = d.readByte sp' a' := by
  by_cases hs : sp' = sp
  · subst hs
    have ha : a' ≠ a := h.resolve_left fun h => h rfl
    simp [Display.readByte, Sparse.find_insert_ne _ v ha]
  · simp [Display.readByte, Display.memory_writeByte_ne a v hs]

/-- A write below the size of its space keeps the canonical form of every memory. -/
theorem Display.memory_wf_writeByte {sp sp' : Space} {a n : Nat} (v : Byte)
    (hm : Memory.wf n (d.memory sp') = true) (ha : sp' = sp → a < n) :
    Memory.wf n ((d.writeByte sp a v).memory sp') = true := by
  by_cases hs : sp' = sp
  · subst hs
    rw [Display.memory_writeByte_self]
    exact Sparse.rising_insert v hm (ha rfl)
  · rwa [Display.memory_writeByte_ne a v hs]

/-- At reset every memory is in canonical form: nothing is listed. -/
theorem Display.memory_wf_reset (c : Config) (i : BitVec 1) (sp : Space) (n : Nat) :
    Memory.wf n ((Display.reset c i).memory sp) = true := by
  cases sp <;> rfl

/-! ### The output image -/

@[simp] theorem Display.buffer_writeRow_back (l : Nat) (row : List Color) :
    (d.writeRow l row).buffer d.back = Sparse.insert (d.buffer d.back) l row := by
  unfold Display.writeRow Display.buffer
  split <;> simp_all

/-- A row written into the back buffer leaves the front buffer alone. -/
@[simp] theorem Display.buffer_writeRow_front (l : Nat) (row : List Color) :
    (d.writeRow l row).buffer (1 - d.back) = d.buffer (1 - d.back) := by
  unfold Display.writeRow Display.buffer
  obtain ⟨b, hb⟩ : ∃ b, d.back = b := ⟨_, rfl⟩
  fin_cases b <;> simp_all

/-- A row written below the height keeps the canonical form of both buffers. -/
theorem Display.image_wf_writeRow {n l : Nat} (row : List Color) (hl : l < n)
    (h : Image.wf n d.buf0 = true ∧ Image.wf n d.buf1 = true) :
    Image.wf n (d.writeRow l row).buf0 = true ∧ Image.wf n (d.writeRow l row).buf1 = true := by
  unfold Display.writeRow
  split
  · exact ⟨Sparse.rising_insert row h.1 hl, h.2⟩
  · exact ⟨h.1, Sparse.rising_insert row h.2 hl⟩

/-! ### The sprite pre-render -/

/-- What a fold over sprite plotting steps can change: the two line buffers, whose lengths it keeps. -/
def Display.SameButObj (d d' : Display) : Prop :=
  ∃ buf win, d' = { d with objBuf := buf, objWin := win } ∧
    buf.length = d.objBuf.length ∧ win.length = d.objWin.length

theorem Display.SameButObj.refl (d : Display) : d.SameButObj d := ⟨_, _, rfl, rfl, rfl⟩

theorem Display.SameButObj.trans {d d' d'' : Display} (h : d.SameButObj d') (h' : d'.SameButObj d'') :
    d.SameButObj d'' := by
  obtain ⟨buf, win, rfl, hb, hw⟩ := h
  obtain ⟨buf', win', rfl, hb', hw'⟩ := h'
  exact ⟨buf', win', rfl, hb'.trans hb, hw'.trans hw⟩

theorem Display.sameButObj_foldl {α : Type} {f : Display → α → Display}
    (hf : ∀ d a, Display.SameButObj d (f d a)) (l : List α) (d : Display) : d.SameButObj (l.foldl f d) := by
  induction l generalizing d with
  | nil => exact .refl d
  | cons a l ih => exact (hf d a).trans (ih _)

/-- Plotting a texel changes the sprite line buffers only. -/
theorem Display.objPlot_sameButObj (d : Display) (a : ObjAttr) (col : Nat) (p : BitVec 9) :
    d.SameButObj (d.objPlot a col p) := by
  unfold Display.objPlot
  split_ifs
  · exact ⟨_, _, rfl, rfl, by simp⟩
  · exact ⟨_, _, rfl, by simp, rfl⟩
  · exact .refl d

theorem Display.drawObjColumn_sameButObj (c : Config) (a : ObjAttr) (t : Nat) (d : Display) (dx : Nat) :
    d.SameButObj (Display.drawObjColumn c a t d dx) := by
  unfold Display.drawObjColumn
  split_ifs
  · split
    · exact d.objPlot_sameButObj ..
    · exact .refl d
  · exact .refl d

theorem Display.drawObj_sameButObj (c : Config) (t : Nat) (d : Display) (i : Nat) :
    d.SameButObj (Display.drawObj c t d i) := by
  unfold Display.drawObj
  dsimp only
  split_ifs
  · exact .refl d
  · exact Display.sameButObj_foldl (fun d dx => Display.drawObjColumn_sameButObj c _ t d dx) _ d
  · exact .refl d

/-- Everything a sprite pre-render can change: the two line buffers, of `SCREEN_W` entries each, and the line they
are for (45_sprite_renderer.md R580, R581). -/
theorem Display.spritePrerender_frame (c : Config) (t : Nat) (d : Display) :
    ∃ buf win, Display.spritePrerender c t d = { d with objBuf := buf, objWin := win, objBufLine := some t } ∧
      buf.length = c.screenW ∧ win.length = c.screenW := by
  have h : (Display.clearObj c d t).SameButObj (Display.spritePrerender c t d) := by
    unfold Display.spritePrerender
    dsimp only
    split_ifs
    · exact Display.sameButObj_foldl (fun d i => Display.drawObj_sameButObj c t d i) _ _
    · exact .refl _
  obtain ⟨buf, win, e, hb, hw⟩ := h
  exact ⟨buf, win, e, by simpa using hb, by simpa using hw⟩

/-! ### Ticks -/

@[simp] theorem State.ticks_zero (s : State) : State.ticks 0 s = s := rfl

theorem State.ticks_succ (n : Nat) (h : s.refused = none) :
    State.ticks (n + 1) s = State.ticks n s.step1 := by
  simp [State.ticks, h]

/-- After a refusal no further tick runs. -/
theorem State.ticks_marked (n : Nat) (h : s.refused ≠ none) : State.ticks n s = s := by
  cases n with
  | zero => rfl
  | succ n => simp [State.ticks, Option.isSome_iff_ne_none.2 h]

/-- A property of states that every tick keeps is kept by any number of ticks. -/
theorem State.ticks_keep {P : State → Prop} (hstep : ∀ s, P s → P s.step1) (n : Nat) (h : P s) :
    P (State.ticks n s) := by
  induction n generalizing s with
  | zero => exact h
  | succ n ih =>
    unfold State.ticks
    split_ifs
    · exact h
    · exact ih (hstep s h)

end Sys2Proof.Machine
end

