-- ==== Sys2Proof/Laws/PerInstr.lean ====
section
/-! SUPPORT. One lemma per instruction: the encoding of every instruction carries the KIND of its format. -/

namespace Sys2Proof.Laws.KindBits

/-- Bits [31:29] of the instruction's port word are its kind (30_encoding.md R203). -/
def Statement (i : Instr) : Prop := (encode i).extractLsb' 29 3 = i.kind

/-- The three highest bits of a word made of a 3-bit kind and 29 more bits. -/
theorem high_bits (kind : BitVec 3) (rest : BitVec 29) :
    (kind ++ rest : PortWord).extractLsb' 29 3 = kind := by
  rw [BitVec.extractLsb'_append_eq_of_le (by decide)]
  exact BitVec.extractLsb'_eq_self

theorem rd8_kind (disp : BitVec 1) (off : BitVec 12) : (rd8Word disp off).extractLsb' 29 3 = 0b000#3 :=
  high_bits ..

theorem wr8_kind (disp : BitVec 1) (off : BitVec 12) (data : Byte) :
    (wr8Word disp off data).extractLsb' 29 3 = 0b001#3 :=
  high_bits ..

theorem memwr8_kind (space : BitVec 2) (disp : BitVec 1) (addr : BitVec 17) (data : Byte) :
    (memwr8Word space disp addr data).extractLsb' 29 3 = 0b100#3 :=
  high_bits ..

theorem rd8Dispcnt (disp : BitVec 1) (k : BitVec 1) : Statement (.rd8Dispcnt disp k) := rd8_kind ..
theorem wr8Dispcnt (disp : BitVec 1) (k : BitVec 1) (data : Byte) : Statement (.wr8Dispcnt disp k data) := wr8_kind ..
theorem rd8Greenswap (disp : BitVec 1) (k : BitVec 1) : Statement (.rd8Greenswap disp k) := rd8_kind ..
theorem wr8Greenswap (disp : BitVec 1) (k : BitVec 1) (data : Byte) : Statement (.wr8Greenswap disp k data) := wr8_kind ..
theorem rd8Dispstat (disp : BitVec 1) (k : BitVec 1) : Statement (.rd8Dispstat disp k) := rd8_kind ..
theorem wr8Dispstat (disp : BitVec 1) (k : BitVec 1) (data : Byte) : Statement (.wr8Dispstat disp k data) := wr8_kind ..
theorem rd8Vcount (disp : BitVec 1) (k : BitVec 1) : Statement (.rd8Vcount disp k) := rd8_kind ..
theorem wr8Vcount (disp : BitVec 1) (k : BitVec 1) (data : Byte) : Statement (.wr8Vcount disp k data) := wr8_kind ..
theorem rd8Bg0cnt (disp : BitVec 1) (k : BitVec 1) : Statement (.rd8Bg0cnt disp k) := rd8_kind ..
theorem wr8Bg0cnt (disp : BitVec 1) (k : BitVec 1) (data : Byte) : Statement (.wr8Bg0cnt disp k data) := wr8_kind ..
theorem rd8Bg1cnt (disp : BitVec 1) (k : BitVec 1) : Statement (.rd8Bg1cnt disp k) := rd8_kind ..
theorem wr8Bg1cnt (disp : BitVec 1) (k : BitVec 1) (data : Byte) : Statement (.wr8Bg1cnt disp k data) := wr8_kind ..
theorem rd8Bg2cnt (disp : BitVec 1) (k : BitVec 1) : Statement (.rd8Bg2cnt disp k) := rd8_kind ..
theorem wr8Bg2cnt (disp : BitVec 1) (k : BitVec 1) (data : Byte) : Statement (.wr8Bg2cnt disp k data) := wr8_kind ..
theorem rd8Bg3cnt (disp : BitVec 1) (k : BitVec 1) : Statement (.rd8Bg3cnt disp k) := rd8_kind ..
theorem wr8Bg3cnt (disp : BitVec 1) (k : BitVec 1) (data : Byte) : Statement (.wr8Bg3cnt disp k data) := wr8_kind ..
theorem rd8Bg0hofs (disp : BitVec 1) (k : BitVec 1) : Statement (.rd8Bg0hofs disp k) := rd8_kind ..
theorem wr8Bg0hofs (disp : BitVec 1) (k : BitVec 1) (data : Byte) : Statement (.wr8Bg0hofs disp k data) := wr8_kind ..
theorem rd8Bg0vofs (disp : BitVec 1) (k : BitVec 1) : Statement (.rd8Bg0vofs disp k) := rd8_kind ..
theorem wr8Bg0vofs (disp : BitVec 1) (k : BitVec 1) (data : Byte) : Statement (.wr8Bg0vofs disp k data) := wr8_kind ..
theorem rd8Bg1hofs (disp : BitVec 1) (k : BitVec 1) : Statement (.rd8Bg1hofs disp k) := rd8_kind ..
theorem wr8Bg1hofs (disp : BitVec 1) (k : BitVec 1) (data : Byte) : Statement (.wr8Bg1hofs disp k data) := wr8_kind ..
theorem rd8Bg1vofs (disp : BitVec 1) (k : BitVec 1) : Statement (.rd8Bg1vofs disp k) := rd8_kind ..
theorem wr8Bg1vofs (disp : BitVec 1) (k : BitVec 1) (data : Byte) : Statement (.wr8Bg1vofs disp k data) := wr8_kind ..
theorem rd8Bg2hofs (disp : BitVec 1) (k : BitVec 1) : Statement (.rd8Bg2hofs disp k) := rd8_kind ..
theorem wr8Bg2hofs (disp : BitVec 1) (k : BitVec 1) (data : Byte) : Statement (.wr8Bg2hofs disp k data) := wr8_kind ..
theorem rd8Bg2vofs (disp : BitVec 1) (k : BitVec 1) : Statement (.rd8Bg2vofs disp k) := rd8_kind ..
theorem wr8Bg2vofs (disp : BitVec 1) (k : BitVec 1) (data : Byte) : Statement (.wr8Bg2vofs disp k data) := wr8_kind ..
theorem rd8Bg3hofs (disp : BitVec 1) (k : BitVec 1) : Statement (.rd8Bg3hofs disp k) := rd8_kind ..
theorem wr8Bg3hofs (disp : BitVec 1) (k : BitVec 1) (data : Byte) : Statement (.wr8Bg3hofs disp k data) := wr8_kind ..
theorem rd8Bg3vofs (disp : BitVec 1) (k : BitVec 1) : Statement (.rd8Bg3vofs disp k) := rd8_kind ..
theorem wr8Bg3vofs (disp : BitVec 1) (k : BitVec 1) (data : Byte) : Statement (.wr8Bg3vofs disp k data) := wr8_kind ..
theorem rd8Bg2pa (disp : BitVec 1) (k : BitVec 1) : Statement (.rd8Bg2pa disp k) := rd8_kind ..
theorem wr8Bg2pa (disp : BitVec 1) (k : BitVec 1) (data : Byte) : Statement (.wr8Bg2pa disp k data) := wr8_kind ..
theorem rd8Bg2pb (disp : BitVec 1) (k : BitVec 1) : Statement (.rd8Bg2pb disp k) := rd8_kind ..
theorem wr8Bg2pb (disp : BitVec 1) (k : BitVec 1) (data : Byte) : Statement (.wr8Bg2pb disp k data) := wr8_kind ..
theorem rd8Bg2pc (disp : BitVec 1) (k : BitVec 1) : Statement (.rd8Bg2pc disp k) := rd8_kind ..
theorem wr8Bg2pc (disp : BitVec 1) (k : BitVec 1) (data : Byte) : Statement (.wr8Bg2pc disp k data) := wr8_kind ..
theorem rd8Bg2pd (disp : BitVec 1) (k : BitVec 1) : Statement (.rd8Bg2pd disp k) := rd8_kind ..
theorem wr8Bg2pd (disp : BitVec 1) (k : BitVec 1) (data : Byte) : Statement (.wr8Bg2pd disp k data) := wr8_kind ..
theorem rd8Bg2x (disp : BitVec 1) (k : BitVec 2) : Statement (.rd8Bg2x disp k) := rd8_kind ..
theorem wr8Bg2x (disp : BitVec 1) (k : BitVec 2) (data : Byte) : Statement (.wr8Bg2x disp k data) := wr8_kind ..
theorem rd8Bg2y (disp : BitVec 1) (k : BitVec 2) : Statement (.rd8Bg2y disp k) := rd8_kind ..
theorem wr8Bg2y (disp : BitVec 1) (k : BitVec 2) (data : Byte) : Statement (.wr8Bg2y disp k data) := wr8_kind ..
theorem rd8Bg3pa (disp : BitVec 1) (k : BitVec 1) : Statement (.rd8Bg3pa disp k) := rd8_kind ..
theorem wr8Bg3pa (disp : BitVec 1) (k : BitVec 1) (data : Byte) : Statement (.wr8Bg3pa disp k data) := wr8_kind ..
theorem rd8Bg3pb (disp : BitVec 1) (k : BitVec 1) : Statement (.rd8Bg3pb disp k) := rd8_kind ..
theorem wr8Bg3pb (disp : BitVec 1) (k : BitVec 1) (data : Byte) : Statement (.wr8Bg3pb disp k data) := wr8_kind ..
theorem rd8Bg3pc (disp : BitVec 1) (k : BitVec 1) : Statement (.rd8Bg3pc disp k) := rd8_kind ..
theorem wr8Bg3pc (disp : BitVec 1) (k : BitVec 1) (data : Byte) : Statement (.wr8Bg3pc disp k data) := wr8_kind ..
theorem rd8Bg3pd (disp : BitVec 1) (k : BitVec 1) : Statement (.rd8Bg3pd disp k) := rd8_kind ..
theorem wr8Bg3pd (disp : BitVec 1) (k : BitVec 1) (data : Byte) : Statement (.wr8Bg3pd disp k data) := wr8_kind ..
theorem rd8Bg3x (disp : BitVec 1) (k : BitVec 2) : Statement (.rd8Bg3x disp k) := rd8_kind ..
theorem wr8Bg3x (disp : BitVec 1) (k : BitVec 2) (data : Byte) : Statement (.wr8Bg3x disp k data) := wr8_kind ..
theorem rd8Bg3y (disp : BitVec 1) (k : BitVec 2) : Statement (.rd8Bg3y disp k) := rd8_kind ..
theorem wr8Bg3y (disp : BitVec 1) (k : BitVec 2) (data : Byte) : Statement (.wr8Bg3y disp k data) := wr8_kind ..
theorem rd8Win0h (disp : BitVec 1) (k : BitVec 1) : Statement (.rd8Win0h disp k) := rd8_kind ..
theorem wr8Win0h (disp : BitVec 1) (k : BitVec 1) (data : Byte) : Statement (.wr8Win0h disp k data) := wr8_kind ..
theorem rd8Win1h (disp : BitVec 1) (k : BitVec 1) : Statement (.rd8Win1h disp k) := rd8_kind ..
theorem wr8Win1h (disp : BitVec 1) (k : BitVec 1) (data : Byte) : Statement (.wr8Win1h disp k data) := wr8_kind ..
theorem rd8Win0v (disp : BitVec 1) (k : BitVec 1) : Statement (.rd8Win0v disp k) := rd8_kind ..
theorem wr8Win0v (disp : BitVec 1) (k : BitVec 1) (data : Byte) : Statement (.wr8Win0v disp k data) := wr8_kind ..
theorem rd8Win1v (disp : BitVec 1) (k : BitVec 1) : Statement (.rd8Win1v disp k) := rd8_kind ..
theorem wr8Win1v (disp : BitVec 1) (k : BitVec 1) (data : Byte) : Statement (.wr8Win1v disp k data) := wr8_kind ..
theorem rd8Winin (disp : BitVec 1) (k : BitVec 1) : Statement (.rd8Winin disp k) := rd8_kind ..
theorem wr8Winin (disp : BitVec 1) (k : BitVec 1) (data : Byte) : Statement (.wr8Winin disp k data) := wr8_kind ..
theorem rd8Winout (disp : BitVec 1) (k : BitVec 1) : Statement (.rd8Winout disp k) := rd8_kind ..
theorem wr8Winout (disp : BitVec 1) (k : BitVec 1) (data : Byte) : Statement (.wr8Winout disp k data) := wr8_kind ..
theorem rd8Mosaic (disp : BitVec 1) (k : BitVec 1) : Statement (.rd8Mosaic disp k) := rd8_kind ..
theorem wr8Mosaic (disp : BitVec 1) (k : BitVec 1) (data : Byte) : Statement (.wr8Mosaic disp k data) := wr8_kind ..
theorem rd8Unused04e (disp : BitVec 1) (k : BitVec 1) : Statement (.rd8Unused04e disp k) := rd8_kind ..
theorem wr8Unused04e (disp : BitVec 1) (k : BitVec 1) (data : Byte) : Statement (.wr8Unused04e disp k data) := wr8_kind ..
theorem rd8Bldcnt (disp : BitVec 1) (k : BitVec 1) : Statement (.rd8Bldcnt disp k) := rd8_kind ..
theorem wr8Bldcnt (disp : BitVec 1) (k : BitVec 1) (data : Byte) : Statement (.wr8Bldcnt disp k data) := wr8_kind ..
theorem rd8Bldalpha (disp : BitVec 1) (k : BitVec 1) : Statement (.rd8Bldalpha disp k) := rd8_kind ..
theorem wr8Bldalpha (disp : BitVec 1) (k : BitVec 1) (data : Byte) : Statement (.wr8Bldalpha disp k data) := wr8_kind ..
theorem rd8Bldy (disp : BitVec 1) (k : BitVec 1) : Statement (.rd8Bldy disp k) := rd8_kind ..
theorem wr8Bldy (disp : BitVec 1) (k : BitVec 1) (data : Byte) : Statement (.wr8Bldy disp k data) := wr8_kind ..
theorem rd8Unused056 (disp : BitVec 1) (k : BitVec 1) : Statement (.rd8Unused056 disp k) := rd8_kind ..
theorem wr8Unused056 (disp : BitVec 1) (k : BitVec 1) (data : Byte) : Statement (.wr8Unused056 disp k data) := wr8_kind ..
theorem rd8Unused058 (disp : BitVec 1) (k : BitVec 3) : Statement (.rd8Unused058 disp k) := rd8_kind ..
theorem wr8Unused058 (disp : BitVec 1) (k : BitVec 3) (data : Byte) : Statement (.wr8Unused058 disp k data) := wr8_kind ..
theorem rd8OffOutOfRange (disp : BitVec 1) (off : BitVec 12) : Statement (.rd8OffOutOfRange disp off) := rd8_kind ..
theorem wr8OffOutOfRange (disp : BitVec 1) (off : BitVec 12) (data : Byte) :
    Statement (.wr8OffOutOfRange disp off data) := wr8_kind ..
theorem tick (n : BitVec 29) : Statement (.tick n) := high_bits ..
theorem ack (disp : BitVec 1) : Statement (.ack disp) :=
  high_bits ..
theorem memwr8Pal (disp : BitVec 1) (addr : BitVec 17) (data : Byte) : Statement (.memwr8Pal disp addr data) :=
  memwr8_kind ..
theorem memwr8Vram (disp : BitVec 1) (addr : BitVec 17) (data : Byte) : Statement (.memwr8Vram disp addr data) :=
  memwr8_kind ..
theorem memwr8Oam (disp : BitVec 1) (addr : BitVec 17) (data : Byte) : Statement (.memwr8Oam disp addr data) :=
  memwr8_kind ..
theorem memwr8ReservedSpace (payload : BitVec 27) : Statement (.memwr8ReservedSpace payload) :=
  high_bits ..
theorem rdpix (disp : BitVec 1) (y x : BitVec 8) : Statement (.rdpix disp y x) :=
  high_bits ..
theorem reservedKind6 (payload : BitVec 29) : Statement (.reservedKind6 payload) := high_bits ..
theorem reservedKind7 (payload : BitVec 29) : Statement (.reservedKind7 payload) := high_bits ..

end Sys2Proof.Laws.KindBits
end

