-- ==== Sys2Proof/Tests/Slice0.lean ====
section
/-! SUPPORT. Tests of the model. Every expected result is a worked vector or an example of the spec, named at the test,
and each test is about one step or one pure function. After them, a witness for every statement with hypotheses. -/

namespace Sys2Proof.Tests

open Sys2Proof Sys2Proof.Machine Sys2Proof.Claims

/-! ### Helpers -/

/-- The answer of one transaction, if it is a next state. -/
def after (i : Instr) (s : State) : Option State :=
  match exec i s with
  | .next t => some t
  | _ => none

/-- The answer of one step on a port word placed at reset. -/
def afterWord (w : Nat) : Option State :=
  match step (State.reset.withFetchWord 32 w) with
  | .next t => some t
  | _ => none

/-- The reset state with the given registers of display 0. -/
def withR (r : Regs) : State := withRegs State.reset r

/-- The reset state at a given line and line tick, with the phase that goes with them. -/
def at' (v t : Nat) (s : State := State.reset) : State :=
  { s with vcount := v, lineTicks := t, phase := phaseAt (decide (v < 160)) (decide (960 ≤ t)) }

/-- A display at reset with some bytes written into one memory. -/
def withBytes (d : Display) (sp : Space) (l : List (Nat × Byte)) : Display :=
  l.foldl (fun d p => d.writeByte sp p.1 p.2) d

/-- Display 0 at reset. -/
def d0 : Display := Display.reset Config.single 0

/-- The reset state of a machine of the DUAL variant, its other parameters as in SINGLE. -/
def dual : State := State.resetOf { Config.single with variant := .dual }

/-- The reset state with a refusal recorded. -/
def marked : State := { State.reset with refused := some .badPortWord }

/-! ### Decoding: one word of every row, written out from the formats -/

/-- The last byte of each slot of 30_encoding.md R212 in the `RD8` format (R204): offset in bits [11:0], DISP in bit 12. -/
theorem test_decode_rd8_0 :
    ∀ p ∈ ([
    (0x00000001, Instr.rd8Dispcnt 0 1),
    (0x00001003, Instr.rd8Greenswap 1 1),
    (0x00000005, Instr.rd8Dispstat 0 1),
    (0x00001007, Instr.rd8Vcount 1 1),
    (0x00000009, Instr.rd8Bg0cnt 0 1),
    (0x0000100B, Instr.rd8Bg1cnt 1 1),
    (0x0000000D, Instr.rd8Bg2cnt 0 1),
    (0x0000100F, Instr.rd8Bg3cnt 1 1),
    (0x00000011, Instr.rd8Bg0hofs 0 1),
    (0x00001013, Instr.rd8Bg0vofs 1 1),
    (0x00000015, Instr.rd8Bg1hofs 0 1),
    (0x00001017, Instr.rd8Bg1vofs 1 1),
    (0x00000019, Instr.rd8Bg2hofs 0 1),
    (0x0000101B, Instr.rd8Bg2vofs 1 1)] : List (PortWord × Instr)),
    decode p.1 = .ok p.2 := by decide

/-- The last byte of each slot of 30_encoding.md R212 in the `RD8` format (R204): offset in bits [11:0], DISP in bit 12. -/
theorem test_decode_rd8_1 :
    ∀ p ∈ ([
    (0x0000001D, Instr.rd8Bg3hofs 0 1),
    (0x0000101F, Instr.rd8Bg3vofs 1 1),
    (0x00000021, Instr.rd8Bg2pa 0 1),
    (0x00001023, Instr.rd8Bg2pb 1 1),
    (0x00000025, Instr.rd8Bg2pc 0 1),
    (0x00001027, Instr.rd8Bg2pd 1 1),
    (0x0000002B, Instr.rd8Bg2x 0 3),
    (0x0000102F, Instr.rd8Bg2y 1 3),
    (0x00000031, Instr.rd8Bg3pa 0 1),
    (0x00001033, Instr.rd8Bg3pb 1 1),
    (0x00000035, Instr.rd8Bg3pc 0 1),
    (0x00001037, Instr.rd8Bg3pd 1 1),
    (0x0000003B, Instr.rd8Bg3x 0 3),
    (0x0000103F, Instr.rd8Bg3y 1 3)] : List (PortWord × Instr)),
    decode p.1 = .ok p.2 := by decide

/-- The last byte of each slot of 30_encoding.md R212 in the `RD8` format (R204): offset in bits [11:0], DISP in bit 12. -/
theorem test_decode_rd8_2 :
    ∀ p ∈ ([
    (0x00000041, Instr.rd8Win0h 0 1),
    (0x00001043, Instr.rd8Win1h 1 1),
    (0x00000045, Instr.rd8Win0v 0 1),
    (0x00001047, Instr.rd8Win1v 1 1),
    (0x00000049, Instr.rd8Winin 0 1),
    (0x0000104B, Instr.rd8Winout 1 1),
    (0x0000004D, Instr.rd8Mosaic 0 1),
    (0x0000104F, Instr.rd8Unused04e 1 1),
    (0x00000051, Instr.rd8Bldcnt 0 1),
    (0x00001053, Instr.rd8Bldalpha 1 1),
    (0x00000055, Instr.rd8Bldy 0 1),
    (0x00001057, Instr.rd8Unused056 1 1),
    (0x0000005F, Instr.rd8Unused058 0 7)] : List (PortWord × Instr)),
    decode p.1 = .ok p.2 := by decide

/-- The last byte of each slot of R212 in the `WR8` format (R205): DATA 0xA5 in bits [23:16], DISP in bit 12. -/
theorem test_decode_wr8_0 :
    ∀ p ∈ ([
    (0x20A51001, Instr.wr8Dispcnt 1 1 0xA5),
    (0x20A50003, Instr.wr8Greenswap 0 1 0xA5),
    (0x20A51005, Instr.wr8Dispstat 1 1 0xA5),
    (0x20A50007, Instr.wr8Vcount 0 1 0xA5),
    (0x20A51009, Instr.wr8Bg0cnt 1 1 0xA5),
    (0x20A5000B, Instr.wr8Bg1cnt 0 1 0xA5),
    (0x20A5100D, Instr.wr8Bg2cnt 1 1 0xA5),
    (0x20A5000F, Instr.wr8Bg3cnt 0 1 0xA5),
    (0x20A51011, Instr.wr8Bg0hofs 1 1 0xA5),
    (0x20A50013, Instr.wr8Bg0vofs 0 1 0xA5),
    (0x20A51015, Instr.wr8Bg1hofs 1 1 0xA5),
    (0x20A50017, Instr.wr8Bg1vofs 0 1 0xA5),
    (0x20A51019, Instr.wr8Bg2hofs 1 1 0xA5),
    (0x20A5001B, Instr.wr8Bg2vofs 0 1 0xA5)] : List (PortWord × Instr)),
    decode p.1 = .ok p.2 := by decide

/-- The last byte of each slot of R212 in the `WR8` format (R205): DATA 0xA5 in bits [23:16], DISP in bit 12. -/
theorem test_decode_wr8_1 :
    ∀ p ∈ ([
    (0x20A5101D, Instr.wr8Bg3hofs 1 1 0xA5),
    (0x20A5001F, Instr.wr8Bg3vofs 0 1 0xA5),
    (0x20A51021, Instr.wr8Bg2pa 1 1 0xA5),
    (0x20A50023, Instr.wr8Bg2pb 0 1 0xA5),
    (0x20A51025, Instr.wr8Bg2pc 1 1 0xA5),
    (0x20A50027, Instr.wr8Bg2pd 0 1 0xA5),
    (0x20A5102B, Instr.wr8Bg2x 1 3 0xA5),
    (0x20A5002F, Instr.wr8Bg2y 0 3 0xA5),
    (0x20A51031, Instr.wr8Bg3pa 1 1 0xA5),
    (0x20A50033, Instr.wr8Bg3pb 0 1 0xA5),
    (0x20A51035, Instr.wr8Bg3pc 1 1 0xA5),
    (0x20A50037, Instr.wr8Bg3pd 0 1 0xA5),
    (0x20A5103B, Instr.wr8Bg3x 1 3 0xA5),
    (0x20A5003F, Instr.wr8Bg3y 0 3 0xA5)] : List (PortWord × Instr)),
    decode p.1 = .ok p.2 := by decide

/-- The last byte of each slot of R212 in the `WR8` format (R205): DATA 0xA5 in bits [23:16], DISP in bit 12. -/
theorem test_decode_wr8_2 :
    ∀ p ∈ ([
    (0x20A51041, Instr.wr8Win0h 1 1 0xA5),
    (0x20A50043, Instr.wr8Win1h 0 1 0xA5),
    (0x20A51045, Instr.wr8Win0v 1 1 0xA5),
    (0x20A50047, Instr.wr8Win1v 0 1 0xA5),
    (0x20A51049, Instr.wr8Winin 1 1 0xA5),
    (0x20A5004B, Instr.wr8Winout 0 1 0xA5),
    (0x20A5104D, Instr.wr8Mosaic 1 1 0xA5),
    (0x20A5004F, Instr.wr8Unused04e 0 1 0xA5),
    (0x20A51051, Instr.wr8Bldcnt 1 1 0xA5),
    (0x20A50053, Instr.wr8Bldalpha 0 1 0xA5),
    (0x20A51055, Instr.wr8Bldy 1 1 0xA5),
    (0x20A50057, Instr.wr8Unused056 0 1 0xA5),
    (0x20A5105F, Instr.wr8Unused058 1 7 0xA5)] : List (PortWord × Instr)),
    decode p.1 = .ok p.2 := by decide

/-- 95_test_vectors.md V-DEC-9, V-DEC-10, V-DEC-12, V-DEC-14, V-DEC-16, V-DEC-20 and the formats R206-R209. -/
theorem test_decode_others :
    ∀ p ∈ ([
    (0x5FFFFFFF, Instr.tick 536870911), (0x60000000, Instr.ack 0), (0x60001000, Instr.ack 1),
    (0x80000A1F, Instr.memwr8Pal 0 0x00A 0x1F), (0x897FFF00, Instr.memwr8Vram 0 0x17FFF 0x00),
    (0x9003FF00, Instr.memwr8Oam 0 0x3FF 0x00), (0x9C000001, Instr.memwr8ReservedSpace 0x4000001),
    (0xA0009FEF, Instr.rdpix 0 159 239), (0xA0010001, Instr.rdpix 1 0 1),
    (0x00000060, Instr.rd8OffOutOfRange 0 0x060), (0x00001FFF, Instr.rd8OffOutOfRange 1 0xFFF),
    (0x20A50060, Instr.wr8OffOutOfRange 0 0x060 0xA5), (0xC0000002, Instr.reservedKind6 2),
    (0xFFFFFFFF, Instr.reservedKind7 0x1FFFFFFF)] : List (PortWord × Instr)),
    decode p.1 = .ok p.2 := by decide

/-- Every must-be-zero field of R204, R205, R207, R208, R209, at its lowest and highest bit (V-DEC-5, 7, 11, 19). -/
theorem test_decode_must_be_zero :
    ∀ p ∈ ([
    (0x00002000, DecodeError.rd8MustBeZero), (0x10000000, DecodeError.rd8MustBeZero),
    (0x20002000, DecodeError.wr8MustBeZero), (0x20008000, DecodeError.wr8MustBeZero),
    (0x21000000, DecodeError.wr8MustBeZero), (0x30000000, DecodeError.wr8MustBeZero),
    (0x60000001, DecodeError.ackMustBeZero), (0x60000800, DecodeError.ackMustBeZero),
    (0x60002000, DecodeError.ackMustBeZero), (0x70000000, DecodeError.ackMustBeZero),
    (0x82000000, DecodeError.memwr8MustBeZero), (0x8A000000, DecodeError.memwr8MustBeZero),
    (0xA0020000, DecodeError.rdpixMustBeZero), (0xB0000000, DecodeError.rdpixMustBeZero)] : List (PortWord × DecodeError)),
    decode p.1 = .error p.2 := by decide

/-- The refused words of V-REF-1 (95_test_vectors.md), each on the reset state. -/
theorem test_refused_words :
    ∀ w ∈ [0x00000060, 0x00001000, 0x00002000, 0x21000000, 0x60000001, 0x800400FF, 0x89800000, 0x98000000, 0x84000000,
      0x82000000, 0xA00000F0, 0xA000A000, 0xC0000000, 0xE0000000],
      (afterWord w).map (·.refused) = some (some .badPortWord) := by decide

/-! ### Well-formedness: an ill-formed term for each check -/

/-- R204: an offset of a register slot is no out-of-range offset (boundary 0x05F / 0x060). -/
theorem test_ill_formed_rd8_offset :
    (Instr.rd8OffOutOfRange 0 0x05F).wellFormed = false ∧ (Instr.rd8OffOutOfRange 0 0x060).wellFormed = true := by decide

/-- R205: the same for `WR8`. -/
theorem test_ill_formed_wr8_offset :
    (Instr.wr8OffOutOfRange 0 0x05F 0).wellFormed = false ∧ (Instr.wr8OffOutOfRange 0 0x060 0).wellFormed = true := by
  decide

/-- R210: `DISP ≥ NUM_DISPLAYS` in each format that has the field. -/
theorem test_illegal_disp :
    ∀ i ∈ [Instr.rd8Dispcnt 1 0, .wr8Dispcnt 1 0 0, .ack 1, .memwr8Pal 1 0 0, .memwr8Vram 1 0 0, .memwr8Oam 1 0 0,
      .rdpix 1 0 0], i.legal Config.single = false ∧ i.legal dual.config = true := by decide

/-- R210: the first address past each space, and its last address. -/
theorem test_illegal_address :
    (∀ i ∈ [Instr.memwr8Pal 0 0x400 0, .memwr8Vram 0 0x18000 0, .memwr8Oam 0 0x400 0],
      i.legal Config.single = false) ∧
    ∀ i ∈ [Instr.memwr8Pal 0 0x3FF 0, .memwr8Vram 0 0x17FFF 0, .memwr8Oam 0 0x3FF 0],
      i.legal Config.single = true := by decide

/-- R210: the first pixel past each edge of the screen, and the last pixel. -/
theorem test_illegal_pixel :
    (Instr.rdpix 0 0 240).legal Config.single = false ∧ (Instr.rdpix 0 160 0).legal Config.single = false ∧
      (Instr.rdpix 0 159 239).legal Config.single = true := by decide

/-- R210: the rows refused outright. -/
theorem test_illegal_rows :
    ∀ i ∈ [Instr.rd8OffOutOfRange 0 0x060, .wr8OffOutOfRange 0 0x060 0, .memwr8ReservedSpace 0, .reservedKind6 0,
      .reservedKind7 0], i.legal Config.single = false := by decide

/-! ### The register port (95_test_vectors.md section 2.2) -/

/-- V-REG-1: `WR8 0x053, 0xFF` gives `BLDALPHA = 0x1F00`. -/
theorem test_wr8_bldalpha :
    (after (.wr8Bldalpha 0 1 0xFF) State.reset).map (·.disp0.regs.bldalpha) = some 0x1F00 := by decide

/-- R304's example: `WR8 0x000, 0x0F` drops bit 3. -/
theorem test_wr8_dispcnt_drops_bit_3 :
    (after (.wr8Dispcnt 0 0 0x0F) State.reset).map (·.disp0.regs.dispcnt) = some 0x0007 := by decide

/-- R301's example: byte 1 of `DISPCNT = 0x1F40` reads 0x1F. -/
theorem test_rd8_dispcnt :
    (after (.rd8Dispcnt 0 1) (withR { Regs.reset with dispcnt := 0x1F40 })).map (·.outReads) = some [.byte 0x1F] := by
  decide

/-- V-REG-3: `WR8 0x004, 0xFF` stores 0x38. -/
theorem test_wr8_dispstat :
    (after (.wr8Dispstat 0 0 0xFF) State.reset).map (·.disp0.regs.dispstat) = some 0x0038 := by decide

/-- V-REG-3, second half: the read then is 0x3C, the enables and `VCOUNT_FLAG`. -/
theorem test_rd8_dispstat :
    (after (.rd8Dispstat 0 0) (withR { Regs.reset with dispstat := 0x0038 })).map (·.outReads) = some [.byte 0x3C] := by
  decide

/-- R309's example: line 5, tick 1000, `LYC = 5`, no enable: the read is 0x06. -/
theorem test_rd8_dispstat_live :
    (after (.rd8Dispstat 0 0) (at' 5 1000 (withR { Regs.reset with dispstat := 0x0500 }))).map (·.outReads) =
      some [.byte 0x06] := by decide

/-- R414: the vblank flag is set on lines 160 to 226 and clear on line 227 (`LYC = 0`). -/
theorem test_rd8_dispstat_vblank :
    (after (.rd8Dispstat 0 0) (at' 159 0)).map (·.outReads) = some [.byte 0x00] ∧
    (after (.rd8Dispstat 0 0) (at' 160 0)).map (·.outReads) = some [.byte 0x01] ∧
    (after (.rd8Dispstat 0 0) (at' 226 0)).map (·.outReads) = some [.byte 0x01] ∧
    (after (.rd8Dispstat 0 0) (at' 227 0)).map (·.outReads) = some [.byte 0x00] := by decide

/-- V-REG-17: at line 159 `VCOUNT` reads 0x9F, 0x00. -/
theorem test_rd8_vcount :
    (after (.rd8Vcount 0 0) (at' 159 0)).map (·.outReads) = some [.byte 0x9F] ∧
    (after (.rd8Vcount 0 1) (at' 159 0)).map (·.outReads) = some [.byte 0x00] := by decide

/-- R312's example: 0xFF to byte 1 of `BG0CNT` gives 0xDF, of `BG2CNT` 0xFF (V-REG-4, V-REG-5). -/
theorem test_wr8_bgcnt :
    (after (.wr8Bg0cnt 0 1 0xFF) State.reset).map (·.disp0.regs.bg0cnt) = some 0xDF00 ∧
    (after (.wr8Bg2cnt 0 1 0xFF) State.reset).map (·.disp0.regs.bg2cnt) = some 0xFF00 := by decide

/-- V-REG-6: byte 1 of a scroll register keeps bit 8 only. -/
theorem test_wr8_bg0hofs :
    (after (.wr8Bg0hofs 0 1 0xFF) (withR { Regs.reset with bg0hofs := 0x00FF })).map (·.disp0.regs.bg0hofs) =
      some 0x01FF := by decide

/-- V-REG-9: `WR8 0x02B, 0x08` gives `BG2X = 0x08000000` and `BG2X_INT = -134217728`. -/
theorem test_wr8_bg2x :
    (after (.wr8Bg2x 0 3 0x08) State.reset).map (fun t => (t.disp0.regs.bg2x, t.disp0.xInt .bg2)) =
      some (0x08000000, -134217728) := by decide

/-- V-REG-10: `BG2X = 0x80`, then `WR8 0x029, 0x01` reloads 0x180. -/
theorem test_wr8_bg2x_second_byte :
    (after (.wr8Bg2x 0 1 0x01) (withR { Regs.reset with bg2x := 0x80 })).map (·.disp0.xInt .bg2) = some 0x180 := by
  decide

/-- V-REG-11: a write to byte 1 of `BLDY` stores nothing. -/
theorem test_wr8_bldy :
    (after (.wr8Bldy 0 1 0xFF) (withR { Regs.reset with bldy := 0x001F })).map (·.disp0.regs.bldy) = some 0x001F := by
  decide

/-- V-REG-14, V-REG-15: `WR8 0x04B, 0x41` and `WR8 0x051, 0xFF`. -/
theorem test_wr8_winout_bldcnt :
    (after (.wr8Winout 0 1 0x41) State.reset).map (·.disp0.regs.winout) = some 0x0100 ∧
    (after (.wr8Bldcnt 0 1 0xFF) State.reset).map (·.disp0.regs.bldcnt) = some 0x3F00 := by decide

/-- V-REG-16: a write to `VCOUNT` changes nothing. -/
theorem test_wr8_vcount : after (.wr8Vcount 0 0 0x50) State.reset = some State.reset := rfl

/-- V-REG-18, V-REG-19: 0 to the green-swap slot has no effect, 1 is refused. -/
theorem test_wr8_greenswap :
    after (.wr8Greenswap 0 0 0x00) State.reset = some State.reset ∧
    (after (.wr8Greenswap 0 0 0x01) State.reset).map (·.refused) = some (some .greenSwapUnmodelled) := ⟨rfl, by decide⟩

/-- V-REG-20, V-REG-21: writes to unused offsets change nothing. -/
theorem test_wr8_unused :
    after (.wr8Unused04e 0 0 0xFF) State.reset = some State.reset ∧
    after (.wr8Unused058 0 7 0x12) State.reset = some State.reset := ⟨rfl, rfl⟩

/-- V-REG-23: `ACK` from reset leaves the frame-ready flag false; with the flag set it clears it (R330). -/
theorem test_ack :
    after (.ack 0) State.reset = some State.reset ∧
    (after (.ack 0) { State.reset with disp0 := { d0 with frameReady := true } }).map (·.disp0.frameReady) =
      some false := ⟨rfl, by decide⟩

/-- V-REF-4: in DUAL a register access is refused with `DualUnmodelled`. -/
theorem test_dual_refuses :
    (after (.rd8Dispcnt 1 0) dual).map (·.refused) = some (some .dualUnmodelled) ∧
    (after (.wr8Dispcnt 0 0 0) dual).map (·.refused) = some (some .dualUnmodelled) := by decide

/-- V-REF-5: after a refusal a write has no effect. -/
theorem test_marked_write : after (.wr8Bldy 0 0 0x10) marked = some marked := rfl

/-! ### Memory and host -/

/-- R340's example: the byte 0x1F at `PAL` address 0x00A is the low byte of `PAL15(5)`. -/
theorem test_memwr8_pal :
    (after (.memwr8Pal 0 0x00B 0x00) { State.reset with disp0 := withBytes d0 .pal [(0x00A, 0x1F)] }).map
      (fun t => t.disp0.pal15 5) = some 0x001F := by decide

/-- R331: the front buffer is the one that is not the back buffer. -/
theorem test_rdpix :
    (after (.rdpix 0 0 1) { State.reset with disp0 := { d0 with back := 0, buf1 := [(0, [0x001F, 0x03E0])] } }).map
      (·.outReads) = some [.pixel 0x03E0] := by decide

/-! ### Ticks: the single tick that makes a transition -/

/-- R403 and V-TIM: the hblank entry of a visible line, interrupt enabled. -/
theorem test_tick_hblank :
    (after (.tick 1) (at' 0 959 (withR { Regs.reset with dispstat := 0x0010 }))).map
      (fun t => (t.phase, t.lineTicks, t.outEvents)) = some (.hblank, 960, [.dmaHblank, .irqHblank]) := by decide

/-- R404: on a blanking line the hblank entry emits no DMA notification. -/
theorem test_tick_vblank_hblank :
    (after (.tick 1) (at' 160 959 (withR { Regs.reset with dispstat := 0x0010 }))).map
      (fun t => (t.phase, t.outEvents)) = some (.vblankHblank, [.irqHblank]) := by decide

/-- R407, R405: the entry into line 160 emits, in order, the DMA, vblank and vcount notifications (`LYC = 160`). -/
theorem test_tick_vblank :
    (after (.tick 1) (at' 159 1231 (withR { Regs.reset with dispstat := 0xA038, bg2x := 0x0FFFFF00 }))).map
      (fun t => (t.phase, t.vcount, t.outEvents)) = some (.vblank, 160, [.dmaVblank, .irqVblank, .irqVcount]) := by decide

/-- R407: the same entry counts the frame, swaps, raises the flag and reloads the internal points. -/
theorem test_tick_vblank_display :
    (after (.tick 1) (at' 159 1231 (withR { Regs.reset with bg2x := 0x0FFFFF00 }))).map
      (fun t => (t.disp0.frameCount, t.disp0.back, t.disp0.frameReady, t.disp0.xInt .bg2)) =
      some (1, 1, true, -256) := by decide

/-- P6 of 95_test_vectors.md: the entry into a visible line in mode 6 is refused. -/
theorem test_tick_invalid_mode :
    (after (.tick 1) (at' 0 1231 (withR { Regs.reset with dispcnt := 0x0006 }))).map
      (fun t => (t.refused, t.vcount, t.lineTicks)) = some (some .invalidBgMode, 1, 0) := by decide

/-- R415: the end of line 227 wraps to line 0, forced blank writes a white row (R721). -/
theorem test_tick_wrap :
    (after (.tick 1) (at' 227 1231 (withR { Regs.reset with dispcnt := 0x0080 }))).map
      (fun t => (t.phase, t.vcount, t.disp0.pixel 0 0 239)) = some (.drawing, 0, 0x7FFF) := by decide

/-- R413: the affine step wraps at 28 bits. -/
theorem test_affine_step_wraps :
    ({ d0 with regs := { Regs.reset with bg2pb := 1 }, bg2xInt := 0x7FFFFFF }.affineStep).xInt .bg2 = -134217728 := by
  decide

/-! ### The renderers, one pixel at a time -/

/-- A text layer display: screen base 1, character base 0, map entry 0 as given. -/
def textD (cnt entry : Half) (bytes : List (Nat × Byte)) : Display :=
  let d := { d0 with regs := { Regs.reset with bg0cnt := cnt } }
  withBytes d .vram ([(0x800, entry.extractLsb' 0 8), (0x801, entry.extractLsb' 8 8)] ++ bytes)

/-- R456: a 4-bit tile, the low nibble is the even column. -/
theorem test_text_4bpp :
    Display.textTexel Config.single (textD 0x0100 0x2001 [(0x20, 0x10)]) .bg0 0 1 = .index 0x21 ∧
    Display.textTexel Config.single (textD 0x0100 0x2001 [(0x20, 0x10)]) .bg0 0 0 = .transparent := by decide

/-- R455: a horizontal flip shows texel 0 in column 7. -/
theorem test_text_hflip :
    Display.textTexel Config.single (textD 0x0100 0x0401 [(0x20, 0x01)]) .bg0 0 7 = .index 1 := by decide

/-- R455: a vertical flip shows row 7 in line 0. -/
theorem test_text_vflip :
    Display.textTexel Config.single (textD 0x0100 0x0801 [(0x3C, 0x01)]) .bg0 0 0 = .index 1 := by decide

/-- R457: an 8-bit tile. -/
theorem test_text_8bpp :
    Display.textTexel Config.single (textD 0x0180 0x0001 [(0x43, 0x99)]) .bg0 0 3 = .index 0x99 := by decide

/-- R458: a fetch at or above 0x10000 reads 0. -/
theorem test_bg_fetch_limit :
    Display.bgRead8 Config.single (withBytes d0 .vram [(0x10000, 0xFF), (0x0FFFF, 0xEE)]) 0x10000 = 0x00 ∧
    Display.bgRead8 Config.single (withBytes d0 .vram [(0x10000, 0xFF), (0x0FFFF, 0xEE)]) 0x0FFFF = 0xEE := by decide

/-- R504: a point one texel left of an affine layer is clipped, or wraps to its last column. -/
theorem test_affine_bound :
    affineBound false 128 (-1, 0) = none ∧ affineBound true 128 (-1, 0) = some (127, 0) ∧
      affineBound false 128 (127, 127) = some (127, 127) ∧ affineBound false 128 (128, 0) = none := by decide

/-- R545: mode 5 is 160 wide: with the identity step column 160 is transparent, column 159 is not. -/
theorem test_bitmap_mode5 :
    ({ withBytes d0 .vram [(318, 0x1F), (319, 0x00)] with regs := { Regs.reset with bg2pa := 0x0100 } } : Display).bitmapTexel
      .mode5 0 159 = .direct 0x001F ∧
    ({ d0 with regs := { Regs.reset with bg2pa := 0x0100 } } : Display).bitmapTexel .mode5 0 160 = .transparent := by
  decide

/-- R544, R546: mode 4 in the second page, index 0 transparent. -/
theorem test_bitmap_mode4 :
    ({ withBytes d0 .vram [(0xA000, 0x03), (0xA001, 0x00)] with
        regs := { Regs.reset with bg2pa := 0x0100, dispcnt := 0x0014 } } : Display).bitmapTexel .mode4 0 0 = .index 3 ∧
    ({ withBytes d0 .vram [(0xA000, 0x03), (0xA001, 0x00)] with
        regs := { Regs.reset with bg2pa := 0x0100, dispcnt := 0x0014 } } : Display).bitmapTexel .mode4 0 1 = .transparent := by
  decide

/-- R586: an entry with `Y = 250` and height 16 covers lines 250 to 255 and 0 to 9. -/
theorem test_obj_vertical_wrap :
    let a := decodeAttr 0x80FA 0x41FC 0
    a.box = (8, 32) ∧ a.covers 250 = true ∧ a.covers 249 = false ∧ a.covers 25 = true ∧ a.covers 26 = false := by
  decide

/-- R587: an entry with `X = 508` shows its column 4 at screen column 0. -/
theorem test_obj_horizontal_wrap : (decodeAttr 0 0x01FC 0).col 4 = 0 ∧ (decodeAttr 0 0x01FC 0).col 3 = 511 := by decide

/-- R584: disabled, mode 3, shape 3, a tile below 512 in mode 3; and the entry that is none of them. -/
theorem test_obj_suppressed :
    (decodeAttr 0x0200 0 0).suppressed 0 = true ∧ (decodeAttr 0x0C00 0 0).suppressed 0 = true ∧
      (decodeAttr 0xC000 0 0).suppressed 0 = true ∧ (decodeAttr 0 0 0x01FF).suppressed 3 = true ∧
      (decodeAttr 0 0 0x0200).suppressed 3 = false ∧ (decodeAttr 0 0 0).suppressed 2 = false := by decide

/-- R591's two mappings for a 16 x 16 sprite at sample (8, 8), 4-bit. -/
theorem test_obj_tile_number :
    (decodeAttr 0 0x4000 0).tileNum true 8 8 = 3 ∧ (decodeAttr 0 0x4000 0).tileNum false 8 8 = 33 := by decide

/-- R593, R594: a window-mode texel marks the window buffer only; a tie keeps the earlier pixel. -/
theorem test_obj_plot :
    (({ d0 with objWin := [false], objBuf := [none] } : Display).objPlot (decodeAttr 0x0800 0 0) 0 0x101).objWin = [true] ∧
    (({ d0 with objWin := [false], objBuf := [none] } : Display).objPlot (decodeAttr 0x0800 0 0) 0 0x101).objBuf = [none] ∧
    objBeats 1 (some { palidx := 0x101, color := 0, prio := 1, translucent := false }) = false ∧
    objBeats 0 (some { palidx := 0x101, color := 0, prio := 1, translucent := false }) = true := by decide

/-- R641's worked values: `Inside(250, 10, v)` for 255, 5 and 128, and the empty window. -/
theorem test_inside :
    inside 250 10 255 = true ∧ inside 250 10 5 = true ∧ inside 250 10 128 = false ∧ inside 250 10 10 = false ∧
      inside 7 7 7 = false := by decide

/-- R676's corner case and R677's, R678's ends. -/
theorem test_blend :
    alphaBlend 16 16 0x001F 0x001F = 0x001F ∧ brighten 16 0x1234 = 0x7FFF ∧ darken 16 0x1234 = 0x0000 := by decide

/-- R671: a sprite is in front of a background of equal priority, a lower layer index in front of a higher one. -/
theorem test_order_keys :
    keyBefore (Candidate.mk .obj 1 0 false).key (Candidate.mk (.bg .bg0) 1 0 false).key = true ∧
    keyBefore (Candidate.mk (.bg .bg0) 1 0 false).key (Candidate.mk (.bg .bg3) 1 0 false).key = true ∧
    keyBefore (Candidate.mk (.bg .bg3) 3 0 false).key (Candidate.mk .bd 4 0 false).key = true := by decide

/-! ### Witnesses: states and operands that meet the hypotheses of each statement -/

theorem witness_DecodeOfEncode : (Instr.rd8OffOutOfRange 1 0xFFF).wellFormed = true := by decide
theorem witness_EncodeOfDecode : decode 0x0000005F = .ok (.rd8Unused058 0 7) := by decide

theorem witness_StepRunsDecodedInstr :
    ({ State.reset with pending := [0x60000000, 0] } : State).pending = 0x60000000 :: [0] ∧
    decode 0x60000000 = .ok (.ack 0) ∧ decode 0x60000001 = .error .ackMustBeZero ∧ State.reset.pending = [] ∧
    decodeTableWord 32 0x60000000 = some (.ack 0) := by decide

/-- One word past each limit of R210. -/
theorem witness_BadPortWordsRefused_refused :
    ([0x00000060, 0x00001000, 0x20000060, 0x60001000, 0x80040000, 0x89800000, 0x90040000, 0x98000000, 0xA00000F0,
      0xA000A000, 0xC0000000, 0xE0000000] : List PortWord).map (badPortWord Config.single) =
    List.replicate 12 true := rfl

/-- The last word inside each limit of R210. -/
theorem witness_BadPortWordsRefused_admitted :
    ([0x0000005F, 0x2000005F, 0x40000000, 0x60000000, 0x8003FF00, 0x897FFF00, 0x9003FF00, 0xA0009FEF] :
      List PortWord).map (badPortWord Config.single) = List.replicate 8 false := rfl

theorem witness_BadPortWordsRefused :
    State.reset.refused = none ∧ State.reset.config = Config.single ∧
    (State.reset.withFetchWord 32 0xC0000000).pending = 0xC0000000 :: [] := ⟨rfl, rfl, rfl⟩

theorem witness_IllegalInstrMarked :
    State.reset.refused = none ∧ (Instr.rdpix 0 159 240).legal State.reset.config = false ∧
      (Instr.ack 1).legal State.reset.config = false := by decide

theorem witness_MarkIsAbsorbing :
    marked.refused ≠ none ∧ (Instr.rd8Dispcnt 0 0).legal marked.config = true ∧ (Instr.rd8Dispcnt 0 0).kind = 0b000 ∧
    (Instr.rdpix 0 0 0).legal marked.config = true ∧ (Instr.rdpix 0 0 0).kind = 0b101 ∧
    (Instr.rd8Dispcnt 1 0).legal marked.config = false ∧ (Instr.tick 1).kind = 0b010 := by decide

theorem witness_DualAccessesRefused :
    dual.refused = none ∧ dual.config.variant = .dual ∧ (Instr.rd8Dispcnt 1 0).legal dual.config = true ∧
    (Instr.rd8Dispcnt 1 0).kind = 0b000 ∧ (Instr.wr8Dispcnt 1 0 0).legal dual.config = true ∧
    (Instr.wr8Dispcnt 1 0 0).kind = 0b001 := by decide

/-- The premise of the register port's statements. -/
theorem witness_Ready : Ready State.reset := by decide

theorem witness_MaskInv : MaskInv State.reset := by
  unfold MaskInv MaskedRegs; decide

theorem witness_Rd8StoredRegisters : Ready State.reset ∧ MaskInv State.reset := ⟨witness_Ready, witness_MaskInv⟩
theorem witness_Rd8DispstatLive : Ready (at' 227 960) ∧ Ready (at' 226 959) ∧ Ready (at' 160 0) := by decide
theorem witness_VcountRegister : Ready (at' 227 0) := by decide
theorem witness_Rd8WriteOnlyDraws : Ready State.reset := witness_Ready
theorem witness_UnusedOffsets : Ready State.reset := witness_Ready
theorem witness_GreenSwapSlot : Ready State.reset ∧ (0x01 : Byte) ≠ 0 := by decide
theorem witness_Wr8ControlRegisters : Ready State.reset ∧ State.reset.disp0.regs = Regs.reset := by decide
theorem witness_Wr8ScrollAndMatrix : Ready State.reset ∧ State.reset.disp0.regs = Regs.reset := by decide
theorem witness_Wr8WindowsMosaicBlend : Ready State.reset ∧ State.reset.disp0.regs = Regs.reset := by decide
theorem witness_Wr8ReferencePoints :
    Ready State.reset ∧ State.reset.disp0 = d0 ∧ wordWrite d0.regs.bg2x 3 0xFF 0x0FFFFFFF = 0x0F000000 :=
  ⟨witness_Ready, rfl, by decide⟩

theorem witness_ByteWriteKeepsOtherBytes :
    (0 : Nat) ≠ 3 ∧ d0.regs.get .bg2x &&& Reg.bg2x.wmask = d0.regs.get .bg2x ∧ Reg.bg2y ≠ Reg.bg2x := by decide

theorem witness_RepeatedWriteIsOneWrite :
    (Instr.wr8Bldy 0 0 0x1F).kind = 0b001 ∧ (Instr.memwr8Pal 0 0x3FF 1).kind = 0b100 ∧
    (∃ t, exec (.wr8Bldy 0 0 0x1F) State.reset = .next t) ∧ ∃ t, exec (.memwr8Pal 0 0x3FF 1) State.reset = .next t :=
  ⟨rfl, rfl, ⟨_, rfl⟩, ⟨_, rfl⟩⟩

theorem witness_OnlyTickMovesTime :
    (Instr.ack 0).kind ≠ 0b010 ∧ exec (.ack 0) State.reset = .next State.reset :=
  ⟨by decide, rfl⟩

theorem witness_Memwr8StoresOneByte :
    State.reset.refused = none ∧ (0 : BitVec 1).toNat < State.reset.config.numDisplays ∧
    (0x3FF : BitVec 17).toNat < State.reset.config.spaceBytes .pal ∧
    State.reset.config.spaceBytes .pal ≤ (0x400 : BitVec 17).toNat ∧
    (0x17FFF : BitVec 17).toNat < State.reset.config.spaceBytes .vram ∧
    State.reset.config.spaceBytes .vram ≤ (0x18000 : BitVec 17).toNat ∧
    (1 : BitVec 1).toNat < dual.config.numDisplays ∧ dual.refused = none := by decide

theorem witness_AckClearsFrameReady : State.reset.refused = none ∧ dual.refused = none ∧ dual.config.variant = .dual := by
  decide

/-- A row written with 240 pixels, a row never written, and the first column and line off the screen. -/
theorem witness_RdpixReadsFront :
    State.reset.refused = none ∧ (0 : BitVec 1).toNat < State.reset.config.numDisplays ∧
    (239 : BitVec 8).toNat < State.reset.config.screenW ∧ (159 : BitVec 8).toNat < State.reset.config.screenH ∧
    Sparse.find ([(159, List.replicate 240 (0 : Color))] : Image) 159 = some (List.replicate 240 0) ∧
    Sparse.find State.reset.disp0.buf1 159 = none ∧ State.reset.config.screenW ≤ (240 : BitVec 8).toNat ∧
    State.reset.config.screenH ≤ (160 : BitVec 8).toNat :=
  ⟨rfl, by decide, by decide, by decide, rfl, rfl, by decide, by decide⟩

theorem witness_FrameReadyClearedOnlyByAck :
    ∃ s t, exec (.ack 0) s = .next t ∧ (s.display 0).frameReady = true ∧ (t.display 0).frameReady = false :=
  ⟨{ State.reset with disp0 := { d0 with frameReady := true } }, _, rfl, rfl, rfl⟩

theorem witness_FrameReadyClearedOnlyByAck_dual :
    ∃ s t, exec (.ack 1) s = .next t ∧ (s.display 1).frameReady = true ∧ (t.display 1).frameReady = false :=
  ⟨{ dual with disp1 := { dual.disp1 with frameReady := true } }, _, rfl, rfl, rfl⟩

theorem witness_FrontBufferStable :
    ∃ t, step (State.reset.withFetchWord 32 0x40000001) = .next t ∧
      t.disp0.frameCount = (State.reset.withFetchWord 32 0x40000001).disp0.frameCount := ⟨_, rfl, rfl⟩

theorem witness_PositionStaysLegal :
    PositionInv State.reset ∧ PositionInv (at' 227 1231) ∧ step State.reset = .next State.reset :=
  ⟨by unfold PositionInv; decide, by unfold PositionInv; decide, rfl⟩

theorem witness_StoredBitsStayMasked : MaskInv State.reset ∧ step State.reset = .next State.reset :=
  ⟨witness_MaskInv, rfl⟩

theorem witness_MemoryStaysCanonical : CanonicalInv State.reset ∧ step State.reset = .next State.reset :=
  ⟨⟨⟨fun sp => Display.memory_wf_reset _ _ sp _, rfl, rfl⟩, ⟨fun sp => Display.memory_wf_reset _ _ sp _, rfl, rfl⟩⟩, rfl⟩

theorem witness_ShapedDisplay (i : BitVec 1) : ShapedDisplay Config.single (Display.reset Config.single i) :=
  ⟨List.length_replicate, List.length_replicate, fun _ h => (nomatch h), fun _ h => (nomatch h)⟩

theorem witness_BuffersKeepTheirShape : ShapeInv State.reset ∧ step State.reset = .next State.reset :=
  ⟨⟨witness_ShapedDisplay 0, witness_ShapedDisplay 1⟩, rfl⟩

theorem witness_HistoryIsKept :
    marked.refused ≠ none ∧ marked.config.variant = .single ∧ step marked = .next marked :=
  ⟨by decide, rfl, rfl⟩

theorem witness_TickComposes :
    (1 : BitVec 29).toNat + (2 : BitVec 29).toNat = (3 : BitVec 29).toNat ∧ ∃ t, exec (.tick 1) State.reset = .next t :=
  ⟨rfl, ⟨_, rfl⟩⟩

/-- Both clauses at the last tick count that fits. -/
theorem witness_TickInsideLinePart :
    State.reset.refused = none ∧
    ((at' 0 0).lineTicks + (959 : BitVec 29).toNat < (at' 0 0).config.hDrawTicks ∧
      (at' 0 0).config.hDrawTicks ≤ (at' 0 0).config.hTotal) ∧
    (at' 0 960).config.hDrawTicks ≤ (at' 0 960).lineTicks ∧
      (at' 0 960).lineTicks + (271 : BitVec 29).toNat < (at' 0 960).config.hTotal := by decide

theorem witness_TickEntersHblank :
    (at' 0 959).refused = none ∧ (at' 0 959).config = Config.single ∧ (at' 0 959).lineTicks = 959 ∧
    (at' 0 959).phase = .drawing ∧ (at' 160 959).phase = .vblank := by decide

/-- The wrap into line 0, the last visible line, and the last mode. -/
theorem witness_TickEntersVisibleLine :
    (at' 227 1231).refused = none ∧ (at' 227 1231).config = Config.single ∧ (at' 227 1231).lineTicks = 1231 ∧
    0 = ((at' 227 1231).vcount + 1) % 228 ∧ 159 = ((at' 158 1231).vcount + 1) % 228 ∧
    (at' 227 1231).disp0.regs.bgMode < 6 ∧
    (at' 158 1231 (withR { Regs.reset with dispcnt := 5 })).disp0.regs.bgMode < 6 := by decide

theorem witness_InvalidModeStopsTick :
    0 = ((at' 227 1231).vcount + 1) % 228 ∧ 159 = ((at' 158 1231).vcount + 1) % 228 ∧
    (at' 227 1231 (withR { Regs.reset with dispcnt := 6 })).refused = none ∧
    (at' 227 1231 (withR { Regs.reset with dispcnt := 6 })).config = Config.single ∧
    (at' 227 1231 (withR { Regs.reset with dispcnt := 6 })).lineTicks = 1231 ∧
    6 ≤ (at' 227 1231 (withR { Regs.reset with dispcnt := 6 })).disp0.regs.bgMode ∧ 1 ≤ (1 : BitVec 29).toNat := by decide

theorem witness_TickEntersVblank :
    (at' 159 1231).refused = none ∧ (at' 159 1231).config = Config.single ∧ (at' 159 1231).lineTicks = 1231 ∧
    (at' 159 1231).vcount = 159 := by decide

theorem witness_TickEntersBlankingLine :
    (at' 160 1231).refused = none ∧ (at' 160 1231).config = Config.single ∧ (at' 160 1231).lineTicks = 1231 ∧
    160 ≤ (at' 160 1231).vcount ∧ (at' 160 1231).vcount < 227 ∧
    (at' 226 1231).vcount = 226 ∧ (at' 226 1231).lineTicks = 1231 := by decide

theorem witness_TickKeepsRegistersAndMemories : ∃ t, exec (.tick 1) State.reset = .next t := ⟨_, rfl⟩

theorem witness_ExactPhase :
    PositionInv State.reset ∧ ∃ t, exec (.tick 1) State.reset = .next t ∧ t.refused = none :=
  ⟨by unfold PositionInv; decide, _, rfl, rfl⟩

theorem witness_FrameNotificationCounts :
    let s := withR { Regs.reset with dispstat := 0xE338 }
    PositionInv s ∧ s.refused = none ∧ frameTick s = 0 ∧ s.disp0.regs.bgMode < 6 ∧ s.disp0.regs.vblankIrqEn = true ∧
      s.disp0.regs.hblankIrqEn = true ∧ s.disp0.regs.vcountIrqEn = true ∧ s.disp0.regs.lyc < 228 ∧
      ∃ t, exec (.tick 280896) s = .next t :=
  ⟨by unfold PositionInv; decide, rfl, rfl, by decide, rfl, rfl, rfl, by decide, ⟨_, rfl⟩⟩

theorem witness_ForcedBlankRowConstant :
    ({ d0 with regs := { Regs.reset with dispcnt := 0x0080 } } : Display).regs.dispcnt.getLsbD 7 = true := by decide

/-- Two displays that agree on VRAM below 0x14000 and differ above, and two that agree on the sprite region only. -/
theorem witness_FetchesStayInTheirRegion :
    SameVideo d0 (d0.writeByte .vram 0x14000 1) (fun a => a < 0x14000) ∧
    SameVideo d0 (d0.writeByte .vram 0x10000 1) (fun a => a < 0x10000) ∧
    SameVideo d0 (d0.writeByte .vram 0x0FFFF 1) (fun a => 0x10000 ≤ a ∧ a < 0x18000) :=
  ⟨⟨rfl, rfl, rfl, rfl, rfl, fun _ h => (Display.readByte_writeByte_ne _ (.inr (by omega))).symm⟩,
    ⟨rfl, rfl, rfl, rfl, rfl, fun _ h => (Display.readByte_writeByte_ne _ (.inr (by omega))).symm⟩,
    ⟨rfl, rfl, rfl, rfl, rfl, fun _ h => (Display.readByte_writeByte_ne _ (.inr (by omega))).symm⟩⟩

theorem witness_AffineColumnsAccumulate : (d0.regs.affineCnt .bg3).getLsbD 6 = false := by decide

theorem witness_IdentityBitmapIsDirect :
    let d : Display := { d0 with regs := { Regs.reset with bg2pa := 0x0100 }, bg2yInt := 0x9F00 }
    d.regs.bg2pa = 0x0100 ∧ d.regs.bg2pc = 0 ∧ d.regs.bg2cnt.getLsbD 6 = false ∧ d.bg2xInt = 0 ∧
      d.bg2yInt.toInt = 256 * 159 ∧ 239 < BitmapMode.mode3.width ∧ 159 < BitmapMode.mode3.height := by decide

theorem witness_SpriteGate : d0.regs.dispcnt.getLsbD 12 = false := by decide

theorem witness_SpriteColumnWinner :
    ({ d0 with regs := { Regs.reset with dispcnt := 0x1000 } } : Display).regs.objEn = true ∧ 239 < 240 := by decide

theorem witness_SpriteWindowHits :
    ({ d0 with regs := { Regs.reset with dispcnt := 0x1000 } } : Display).regs.objEn = true ∧ 239 < 240 := by decide

/-- The last line and column of an 8 x 8 entry at `Y = 250`. -/
theorem witness_SpriteSamplesInside :
    (decodeAttr 0x00FA 0 0).covers 1 = true ∧ 7 < (decodeAttr 0x00FA 0 0).box.1 ∧
    d0.objSample (decodeAttr 0x00FA 0 0) 1 7 = some (7, 7) := by decide

/-- One column per clause: no window, window 0, window 1 only (both at the last column inside), an object-window hit only,
outside all (at the first column past window 1). -/
theorem witness_WindowPrecedence :
    let r : Regs := { Regs.reset with
      dispcnt := 0xE000, win0h := 0x0001, win0v := 0x0001, win1h := 0x0102, win1v := 0x0001 }
    let d : Display := { d0 with regs := r, objWin := [false, false, false, true], objBufLine := some 0 }
    (Regs.reset.dispcnt.getLsbD 13 = false ∧ Regs.reset.dispcnt.getLsbD 14 = false ∧
      Regs.reset.dispcnt.getLsbD 15 = false) ∧
    rectHit r 13 r.win0h r.win0v 0 0 ∧
    (¬ rectHit r 13 r.win0h r.win0v 1 0 ∧ rectHit r 14 r.win1h r.win1v 1 0) ∧
    (¬ rectHit r 13 r.win0h r.win0v 3 0 ∧ ¬ rectHit r 14 r.win1h r.win1v 3 0 ∧ objHit d 0 3) ∧
    (r.dispcnt.getLsbD 13 = true ∧ ¬ rectHit r 13 r.win0h r.win0v 2 0 ∧ ¬ rectHit r 14 r.win1h r.win1v 2 0 ∧
      ¬ objHit d 0 2) := by
  simp +decide [rectHit, between, objHit]

theorem witness_TopAndBottom :
    ∃ top bottom, Display.topBottom Config.single d0 0 0 = (top, bottom) := ⟨_, _, rfl⟩

theorem witness_StaleSpriteBufferIgnored :
    d0.objBufLine ≠ some 5 ∧ ({ d0 with objWin := [true], objBufLine := some 6 } : Display).objBufLine ≠ some 5 := by decide

theorem witness_AlphaChannels :
    16 = min (({ Regs.reset with bldalpha := 0x1F14 } : Regs).bldalpha.extractLsb' 0 5).toNat 16 ∧
    16 = min (({ Regs.reset with bldalpha := 0x1F14 } : Regs).bldalpha.extractLsb' 8 5).toNat 16 := by decide

/-- Each clause: a forced blend; each effect code on a first target, with and without a second target below; a top that
is no target. -/
theorem witness_EffectNeedsItsTargets :
    let bd : Candidate := { layer := .bd, prio := 4, color := 0, translucent := false }
    let obj : Candidate := { layer := .obj, prio := 0, color := 0x001F, translucent := true }
    let bg : Candidate := { layer := .bg .bg0, prio := 0, color := 0x001F, translucent := false }
    let r (v : Half) : Regs := { Regs.reset with bldcnt := v }
    forcedBlend (r 0x2000) obj (some bd) ∧ ¬ forcedBlend (r 0x2041) bg (some bd) ∧
    firstTarget (r 0x0001) bg ∧ (r 0x0001).bldcnt.extractLsb' 6 2 = 0 ∧
    firstTarget (r 0x2041) bg ∧ (r 0x2041).bldcnt.extractLsb' 6 2 = 1 ∧ secondTarget (r 0x2041) (some bd) ∧
    firstTarget (r 0x0041) bg ∧ (r 0x0041).bldcnt.extractLsb' 6 2 = 1 ∧ ¬ secondTarget (r 0x0041) (some bd) ∧
    firstTarget (r 0x0081) bg ∧ (r 0x0081).bldcnt.extractLsb' 6 2 = 2 ∧
    firstTarget (r 0x00C1) bg ∧ (r 0x00C1).bldcnt.extractLsb' 6 2 = 3 ∧ ¬ firstTarget (r 0x0080) bg := by
  simp [forcedBlend, firstTarget, secondTarget, targetIndex]

end Sys2Proof.Tests
end

section
/-! What a transaction and a tick can do, said once: the changes of a display, the elementary actions of a
tick, and the effects of a transaction. Every invariant of a step is a case analysis on these. -/

namespace Sys2Proof.Machine

variable {s t : State} {i : Instr} {b : BitVec 1} {f : Display → Display}

/-! ### The displays after a change -/

theorem State.display_modifyDisplay (s : State) (b b' : BitVec 1) (f : Display → Display) :
    (s.modifyDisplay b f).display b' = if b' = b then f (s.display b') else s.display b' := by
  obtain rfl | rfl := BitVec.eq_zero_or_eq_one b <;> obtain rfl | rfl := BitVec.eq_zero_or_eq_one b' <;> rfl

theorem State.display_mapDisplays (s : State) (f : Display → Display) (b : BitVec 1) :
    (s.mapDisplays f).display b =
      if b = 0 ∨ s.config.variant = .dual then f (s.display b) else s.display b := by
  obtain rfl | rfl := BitVec.eq_zero_or_eq_one b <;> cases hv : s.config.variant <;>
    simp [State.mapDisplays, State.display, hv]

/-! ### The elementary actions of a tick -/

/-- What a tick does to every display of the machine: the vblank entry (41_scanline_timing_fsm.md R407), the
affine step (R413) and the sprite pre-render (45_sprite_renderer.md R580). -/
inductive TickEdit (c : Config) : (Display → Display) → Prop where
  | vblankEntry : TickEdit c Display.vblankEntry
  | affineStep : TickEdit c Display.affineStep
  | spritePrerender (l : Nat) : TickEdit c (Display.spritePrerender c l)

/-- One elementary action of a tick. -/
inductive TickMove (s : State) : State → Prop where
  /-- The position moves (10_state.md R51). -/
  | position (p : Phase) (v l : Nat) : TickMove s { s with phase := p, vcount := v, lineTicks := l }
  /-- Notifications are appended (10_state.md R80). -/
  | notify (l : List Event) : TickMove s { s with outEvents := s.outEvents ++ l }
  /-- A render instant is refused (41_scanline_timing_fsm.md R412, 60_exceptions.md R757). -/
  | refuse (r : RefuseReason) : TickMove s (s.refuse r)
  /-- A visible line is written into the back buffer (R412). -/
  | row (l : Nat) (hl : l < s.config.screenH) :
      TickMove s { s with disp0 := s.disp0.writeRow l (Display.framebufferRow s.config s.disp0 l) }
  /-- Every display changes (R418). -/
  | displays {f : Display → Display} (hf : TickEdit s.config f) : TickMove s (s.mapDisplays f)

/-- What elementary actions of a tick can reach. -/
abbrev TickReach : State → State → Prop := Relation.ReflTransGen TickMove

theorem TickMove.reach (h : TickMove s t) : TickReach s t := .single h

theorem State.emitIrq_reach (s : State) (e : Event) (en : Display → Bool) : TickReach s (s.emitIrq e en) :=
  (TickMove.notify _).reach

theorem State.enterHBlank_reach (s : State) : TickReach s s.enterHBlank := by
  unfold State.enterHBlank
  cases s.phase with
  | drawing =>
    exact (TickMove.position .hblank s.vcount s.lineTicks).reach.trans
      ((TickMove.notify [.dmaHblank]).reach.trans (State.emitIrq_reach ..))
  | vblank => exact (TickMove.position .vblankHblank s.vcount s.lineTicks).reach.trans (State.emitIrq_reach ..)
  | hblank | vblankHblank => exact .refl

theorem State.hblankPart_reach (s : State) : TickReach s s.hblankPart := by
  unfold State.hblankPart
  split_ifs
  · exact s.enterHBlank_reach
  · exact .refl

theorem State.vcountCheck_reach (s : State) : TickReach s s.vcountCheck := s.emitIrq_reach ..

theorem State.vblankStart_reach (s : State) : TickReach s s.vblankStart :=
  (TickMove.notify [.dmaVblank]).reach.trans
    ((State.emitIrq_reach ..).trans (TickMove.displays .vblankEntry).reach)

theorem State.spritePrerender_reach (s : State) (l : Nat) : TickReach s (s.spritePrerender l) :=
  (TickMove.displays (.spritePrerender l)).reach

theorem State.renderLine_reach (s : State) {l : Nat} (hl : l < s.config.screenH) : TickReach s (s.renderLine l) := by
  unfold State.renderLine
  cases s.config.variant with
  | dual => exact (TickMove.refuse _).reach
  | single =>
    dsimp only
    split_ifs
    · exact (TickMove.refuse _).reach
    · exact (TickMove.row l hl).reach

theorem State.wrapPrerender_reach (s : State) (l : Nat) : TickReach s (s.wrapPrerender l) := by
  unfold State.wrapPrerender
  split_ifs
  · exact s.spritePrerender_reach 0
  · exact .refl

@[simp] theorem State.wrapPrerender_config (s : State) (l : Nat) : (s.wrapPrerender l).config = s.config := by
  unfold State.wrapPrerender State.spritePrerender
  split_ifs <;> simp

theorem State.afterRender_reach (s : State) (l : Nat) : TickReach s (s.afterRender l) := by
  unfold State.afterRender
  dsimp only
  split_ifs
  · exact .refl
  · exact (TickMove.displays .affineStep).reach.trans (State.spritePrerender_reach ..)
  · exact (TickMove.displays .affineStep).reach

theorem State.visibleLineStart_reach (s : State) {l : Nat} (hl : l < s.config.screenH) :
    TickReach s (s.visibleLineStart l) :=
  (s.wrapPrerender_reach l).trans ((State.renderLine_reach _ (by simpa using hl)).trans (State.afterRender_reach ..))

theorem State.lastLinePrerender_reach (s : State) : TickReach s s.lastLinePrerender := by
  unfold State.lastLinePrerender
  split_ifs
  · exact s.spritePrerender_reach 0
  · exact .refl

theorem State.enterLine_reach (s : State) : TickReach s s.enterLine := by
  have enter (p : Phase) : TickReach s { s with phase := p } := (TickMove.position p s.vcount s.lineTicks).reach
  unfold State.enterLine
  split_ifs with hv hb
  · exact (enter .drawing).trans ((State.vcountCheck_reach _).trans (State.visibleLineStart_reach _ hv))
  · exact (enter .vblank).trans ((State.vblankStart_reach _).trans (State.vcountCheck_reach _))
  · exact (enter .vblank).trans ((State.vcountCheck_reach _).trans (State.lastLinePrerender_reach _))

theorem State.lineEndPart_reach (s : State) : TickReach s s.lineEndPart := by
  unfold State.lineEndPart State.endLine
  split_ifs
  · exact (TickMove.position s.phase ((s.vcount + 1) % s.config.totalLines) 0).reach.trans (State.enterLine_reach _)
  · exact .refl

/-- A tick is a sequence of elementary actions. -/
theorem State.step1_reach (s : State) : TickReach s s.step1 :=
  (TickMove.position s.phase s.vcount (s.lineTicks + 1)).reach.trans
    ((State.hblankPart_reach _).trans (State.lineEndPart_reach _))

/-- A property that every elementary action of a tick keeps is kept by any number of ticks. -/
theorem State.ticks_keep_of_move {P : State → Prop} (hmove : ∀ s t, TickMove s t → P s → P t) (n : Nat) (h : P s) :
    P (State.ticks n s) := by
  refine State.ticks_keep (fun s hs => ?_) n h
  have reach := s.step1_reach
  generalize s.step1 = t at reach ⊢
  induction reach with
  | refl => exact hs
  | tail _ hm ih => exact hmove _ _ hm ih

/-! ### The effects of a transaction -/

/-- What a transaction `i` other than a `TICK` can do to the display `b` that it addresses. -/
inductive HostEdit (c : Config) (i : Instr) (b : BitVec 1) : (Display → Display) → Prop where
  /-- An ignored write (40_register_port.md R303, R310). -/
  | ignored : HostEdit c i b fun d => d
  /-- The byte write of a register (R300). -/
  | store (reg : Reg) (k : Nat) (v : Byte) : HostEdit c i b fun d => d.storeByte reg k v
  /-- The byte write of a reference point register (R316). -/
  | storeRef (reg : Reg) (k : Nat) (v : Byte) : HostEdit c i b fun d => d.storeRefByte reg k v
  /-- The store of a byte below the size of its space (R340). -/
  | memory (sp : Space) (a : Nat) (v : Byte) (ha : a < c.spaceBytes sp) : HostEdit c i b fun d => d.writeByte sp a v
  /-- The acknowledgement of a frame (R330). -/
  | ack (hi : i = .ack b) : HostEdit c i b fun d => { d with frameReady := false }

/-- Everything a transaction can do. -/
inductive Effect (i : Instr) (s : State) : State → Prop where
  /-- Nothing. -/
  | same : Effect i s s
  /-- It returns a read result (30_encoding.md R201), perhaps a draw. -/
  | reads (rs : List ReadOut) (n : Nat) : Effect i s { s with outReads := rs, draws := n }
  /-- It is refused, where no refusal was recorded before (60_exceptions.md R755). -/
  | refuse (r : RefuseReason) (h : s.refused = none) : Effect i s (s.refuse r)
  /-- It changes the display it addresses. -/
  | edit {b : BitVec 1} {f : Display → Display} (h : s.refused = none) (hb : s.dispExists b = true)
      (hf : HostEdit s.config i b f) : Effect i s (s.modifyDisplay b f)
  /-- It is a `TICK` (R206). -/
  | ticks (n : BitVec 29) (hi : i = .tick n) (h : s.refused = none) : Effect i s (State.ticks n.toNat s)

theorem State.transact_effect {legal : Bool} {body : State → State}
    (h : s.refused = none → legal = true → Effect i s (body s)) : Effect i s (s.transact legal body) := by
  obtain ⟨_, e⟩ | ⟨hr, hl, e⟩ | ⟨hr, _, e⟩ := s.transact_cases legal body <;> rw [e]
  · exact .same
  · exact h hr hl
  · exact .refuse _ hr

theorem State.transactRead_effect {legal : Bool} {drawn body : State → State} (hd : Effect i s (drawn s))
    (h : s.refused = none → Effect i s (body s)) : Effect i s (s.transactRead legal drawn body) := by
  obtain ⟨_, _, e⟩ | ⟨_, _, e⟩ | ⟨hr, _, e⟩ | ⟨hr, _, e⟩ := s.transactRead_cases legal drawn body <;> rw [e]
  · exact hd
  · exact .same
  · exact h hr
  · exact .refuse _ hr

theorem State.registerAccess_effect {body : State → State} (hr : s.refused = none) (h : Effect i s (body s)) :
    Effect i s (s.registerAccess body) := by
  cases hv : s.config.variant with
  | single => rwa [State.registerAccess_single hv]
  | dual => rw [State.registerAccess_dual hv]; exact .refuse _ hr

theorem State.writeReg_effect (hf : HostEdit s.config i b f) : Effect i s (s.writeReg b f) :=
  State.transact_effect fun hr hb => State.registerAccess_effect hr (.edit hr hb hf)

theorem State.readReg_effect (s : State) (i : Instr) (b : BitVec 1) (k : Nat) (val : Display → BitVec 32) :
    Effect i s (s.readReg b k val) :=
  State.transactRead_effect (.reads _ _) fun hr => State.registerAccess_effect hr (.reads _ _)

theorem State.readDraw_effect (s : State) (i : Instr) (b : BitVec 1) : Effect i s (s.readDraw b) :=
  State.transactRead_effect (.reads _ _) fun hr => State.registerAccess_effect hr (.reads _ _)

theorem State.badWord_effect (s : State) (i : Instr) : Effect i s s.badWord :=
  State.transact_effect fun _ h => absurd h Bool.false_ne_true

theorem State.memWrite_effect (s : State) (i : Instr) (sp : Space) (b : BitVec 1) (a : BitVec 17) (v : Byte) :
    Effect i s (s.memWrite sp b a v) :=
  State.transact_effect fun hr hl => by
    rw [Bool.and_eq_true, decide_eq_true_eq] at hl
    obtain ⟨hb, ha⟩ := hl
    exact .edit hr hb (.memory sp _ v ha)

/-- Every transaction answers a next state, reached by one of the effects. -/
theorem exec_effect (i : Instr) (s : State) : ∃ t, exec i s = .next t ∧ Effect i s t := by
  cases i
  case rd8Dispcnt | rd8Dispstat | rd8Vcount | rd8Bg0cnt | rd8Bg1cnt | rd8Bg2cnt | rd8Bg3cnt | rd8Winin | rd8Winout
      | rd8Bldcnt | rd8Bldalpha =>
    exact ⟨_, rfl, State.readReg_effect ..⟩
  case rd8Greenswap | rd8Bg0hofs | rd8Bg0vofs | rd8Bg1hofs | rd8Bg1vofs | rd8Bg2hofs | rd8Bg2vofs | rd8Bg3hofs
      | rd8Bg3vofs | rd8Bg2pa | rd8Bg2pb | rd8Bg2pc | rd8Bg2pd | rd8Bg2x | rd8Bg2y | rd8Bg3pa | rd8Bg3pb | rd8Bg3pc
      | rd8Bg3pd | rd8Bg3x | rd8Bg3y | rd8Win0h | rd8Win1h | rd8Win0v | rd8Win1v | rd8Mosaic | rd8Unused04e | rd8Bldy
      | rd8Unused056 | rd8Unused058 =>
    exact ⟨_, rfl, State.readDraw_effect ..⟩
  case wr8Dispcnt | wr8Dispstat | wr8Bg0cnt | wr8Bg1cnt | wr8Bg2cnt | wr8Bg3cnt | wr8Bg0hofs | wr8Bg0vofs | wr8Bg1hofs
      | wr8Bg1vofs | wr8Bg2hofs | wr8Bg2vofs | wr8Bg3hofs | wr8Bg3vofs | wr8Bg2pa | wr8Bg2pb | wr8Bg2pc | wr8Bg2pd
      | wr8Bg3pa | wr8Bg3pb | wr8Bg3pc | wr8Bg3pd | wr8Win0h | wr8Win1h | wr8Win0v | wr8Win1v | wr8Winin | wr8Winout
      | wr8Mosaic | wr8Bldcnt | wr8Bldalpha | wr8Bldy =>
    exact ⟨_, rfl, State.writeReg_effect (.store ..)⟩
  case wr8Bg2x | wr8Bg2y | wr8Bg3x | wr8Bg3y => exact ⟨_, rfl, State.writeReg_effect (.storeRef ..)⟩
  case wr8Vcount | wr8Unused04e | wr8Unused056 | wr8Unused058 => exact ⟨_, rfl, State.writeReg_effect .ignored⟩
  case wr8Greenswap disp k data =>
    refine ⟨_, rfl, State.transact_effect fun hr _ => State.registerAccess_effect hr ?_⟩
    split_ifs
    · exact .same
    · exact .refuse _ hr
  case tick n => exact ⟨_, rfl, State.transact_effect fun hr _ => .ticks n rfl hr⟩
  case ack disp => exact ⟨_, rfl, State.transact_effect fun hr hb => .edit hr hb (.ack rfl)⟩
  case memwr8Pal | memwr8Vram | memwr8Oam => exact ⟨_, rfl, State.memWrite_effect ..⟩
  case rdpix => exact ⟨_, rfl, State.transactRead_effect (.reads _ _) fun _ => .reads _ _⟩
  case rd8OffOutOfRange | wr8OffOutOfRange | memwr8ReservedSpace | reservedKind6 | reservedKind7 =>
    exact ⟨_, rfl, State.badWord_effect ..⟩

theorem effect_of_exec (h : exec i s = .next t) : Effect i s t := by
  obtain ⟨t', ht, he⟩ := exec_effect i s
  obtain rfl : t' = t := Host.Outcome.next.inj (ht.symm.trans h)
  exact he

/-- Everything a step can do: nothing, with no word pending, or the effect of a transaction once its word is taken. -/
theorem step_cases (h : step s = .next t) :
    (s.pending = [] ∧ t = s) ∨ ∃ i w rest, s.pending = w :: rest ∧ Effect i { s with pending := rest } t := by
  unfold step at h
  split at h
  next hp => exact .inl ⟨hp, (Host.Outcome.next.inj h).symm⟩
  next w rest hp =>
    right
    split at h
    next i _ => exact ⟨i, w, rest, hp, effect_of_exec h⟩
    next => exact ⟨.reservedKind6 0, w, rest, hp, Host.Outcome.next.inj h ▸ State.badWord_effect ..⟩

end Sys2Proof.Machine
end

section
/-! The invariants of 10_state.md: the shape of the buffers, what only a `TICK` or an `ACK` changes, the history a step
keeps, and the reset state. -/

namespace Sys2Proof.Machine

variable {s t : State} {i : Instr} {b : BitVec 1} {c : Config} {f : Display → Display} {d : Display}

/-! ### The shape of the line buffers and rows -/

theorem shapeInv_iff : ShapeInv s ↔ ∀ b, ShapedDisplay s.config (s.display b) := by
  constructor
  · rintro ⟨h0, h1⟩ b
    obtain rfl | rfl := BitVec.eq_zero_or_eq_one b
    · exact h0
    · exact h1
  · exact fun h => ⟨h 0, h 1⟩

theorem HostEdit.shaped (hf : HostEdit c i b f) (h : ShapedDisplay c d) : ShapedDisplay c (f d) := by
  cases hf with
  | ignored | store | ack => exact h
  | storeRef => simpa [ShapedDisplay, Display.storeRefByte] using h
  | memory => simpa [ShapedDisplay] using h

theorem TickEdit.shaped (hf : TickEdit c f) (h : ShapedDisplay c d) : ShapedDisplay c (f d) := by
  cases hf with
  | vblankEntry | affineStep => exact h
  | spritePrerender l =>
    obtain ⟨_, _, h0, h1⟩ := h
    obtain ⟨buf, win, e, hb, hw⟩ := Display.spritePrerender_frame c l d
    rw [e]
    exact ⟨hb, hw, h0, h1⟩

theorem Display.framebufferRow_length (c : Config) (d : Display) (l : Nat) :
    (Display.framebufferRow c d l).length = c.screenW := by
  simp [Display.framebufferRow]

theorem Display.writeRow_shaped {l : Nat} {row : List Color} (hrow : row.length = c.screenW)
    (h : ShapedDisplay c d) : ShapedDisplay c (d.writeRow l row) := by
  have rows {m : Image} (hm : ∀ p ∈ m, p.2.length = c.screenW) :
      ∀ p ∈ Sparse.insert m l row, p.2.length = c.screenW := fun p hp => by
    obtain rfl | hp := Sparse.mem_insert _ _ _ _ hp
    · exact hrow
    · exact hm p hp
  obtain ⟨hb, hw, h0, h1⟩ := h
  unfold Display.writeRow
  split_ifs
  · exact ⟨hb, hw, rows h0, h1⟩
  · exact ⟨hb, hw, h0, rows h1⟩

theorem TickMove.shapeInv (hm : TickMove s t) (h : ShapeInv s) : ShapeInv t := by
  cases hm with
  | position | notify | refuse => exact h
  | row l =>
    obtain ⟨h0, h1⟩ := h
    exact ⟨Display.writeRow_shaped (Display.framebufferRow_length ..) h0, h1⟩
  | displays hf =>
    rw [shapeInv_iff] at h ⊢
    intro b
    rw [State.display_mapDisplays, State.mapDisplays_config]
    split_ifs
    · exact hf.shaped (h b)
    · exact h b

theorem Effect.shapeInv (he : Effect i s t) (h : ShapeInv s) : ShapeInv t := by
  cases he with
  | same | reads | refuse => exact h
  | edit _ _ hf =>
    rw [shapeInv_iff] at h ⊢
    intro b
    rw [State.display_modifyDisplay, State.modifyDisplay_config]
    split_ifs
    · exact hf.shaped (h b)
    · exact h b
  | ticks n => exact State.ticks_keep_of_move (fun _ _ hm => hm.shapeInv) n.toNat h

/-- Settles O32: no effect of a transaction, and no elementary action of a tick, changes a length. -/
theorem buffersKeepTheirShape : Obligations.BuffersKeepTheirShape := by
  intro s t hs h
  obtain ⟨_, rfl⟩ | ⟨i, w, rest, _, he⟩ := step_cases h
  · exact hs
  · exact he.shapeInv hs

/-! ### What only a `TICK` or an `ACK` changes -/

/-- The sprite line buffers, the output image and the frame counter of the two displays agree. -/
def SameOutput (d d' : Display) : Prop :=
  d'.objBuf = d.objBuf ∧ d'.objWin = d.objWin ∧ d'.objBufLine = d.objBufLine ∧ d'.buf0 = d.buf0 ∧
    d'.buf1 = d.buf1 ∧ d'.back = d.back ∧ d'.frameCount = d.frameCount

theorem SameOutput.refl (d : Display) : SameOutput d d := ⟨rfl, rfl, rfl, rfl, rfl, rfl, rfl⟩

theorem HostEdit.sameOutput (hf : HostEdit c i b f) (d : Display) : SameOutput d (f d) := by
  cases hf with
  | ignored | store | ack => exact .refl d
  | storeRef => simp [SameOutput, Display.storeRefByte]
  | memory => simp [SameOutput]

/-- Settles O21: the effects other than ticks leave the position, the notifications and the output alone. -/
theorem onlyTickMovesTime : Obligations.OnlyTickMovesTime := by
  intro i s t hi h
  cases effect_of_exec h with
  | same | reads | refuse => exact ⟨rfl, rfl, rfl, rfl, fun _ => SameOutput.refl _⟩
  | @edit b f _ _ hf =>
    refine ⟨by simp, by simp, by simp, by simp, fun disp => ?_⟩
    change SameOutput _ _
    rw [State.display_modifyDisplay]
    split_ifs
    · exact hf.sameOutput _
    · exact .refl _
  | ticks n hn => exact absurd (congrArg Instr.kind hn) hi

theorem HostEdit.frameReady (hf : HostEdit c i b f) (d : Display) :
    i = .ack b ∨ (f d).frameReady = d.frameReady := by
  cases hf with
  | ack hi => exact .inl hi
  | ignored | store => exact .inr rfl
  | storeRef => exact .inr (by simp [Display.storeRefByte])
  | memory => exact .inr (by simp)

theorem TickEdit.frameReady (hf : TickEdit c f) (h : d.frameReady = true) : (f d).frameReady = true := by
  cases hf with
  | vblankEntry => rfl
  | affineStep => exact h
  | spritePrerender l =>
    obtain ⟨buf, win, e, _⟩ := Display.spritePrerender_frame c l d
    rwa [e]

theorem TickMove.frameReady (hm : TickMove s t) (h : (s.display b).frameReady = true) :
    (t.display b).frameReady = true := by
  cases hm with
  | position | notify | refuse => exact h
  | row l =>
    obtain rfl | rfl := BitVec.eq_zero_or_eq_one b
    · simpa using h
    · exact h
  | displays hf =>
    rw [State.display_mapDisplays]
    split_ifs
    · exact hf.frameReady h
    · exact h

theorem Effect.frameReady (he : Effect i s t) (h : (s.display b).frameReady = true) :
    i = .ack b ∨ (t.display b).frameReady = true := by
  cases he with
  | same | reads | refuse => exact .inr h
  | @edit b' f _ _ hf =>
    rw [State.display_modifyDisplay]
    split_ifs with hb
    · subst hb
      exact (hf.frameReady (s.display b)).imp_right fun e => e.trans h
    · exact .inr h
  | ticks n => exact .inr (State.ticks_keep_of_move (fun _ _ hm => hm.frameReady) n.toNat h)

/-- Settles O25: of the effects of a transaction, only an acknowledgement of the display clears its flag. -/
theorem frameReadyClearedOnlyByAck : Obligations.FrameReadyClearedOnlyByAck := by
  intro i s t disp h hs ht
  exact ((effect_of_exec h).frameReady hs).resolve_right (by simp [ht])

/-! ### The history that a step keeps -/

/-- State `t` is a later state of the machine `s`: its notifications extend those of `s`, its configuration is the same
and, in SINGLE, so is the display that the variant does not have. -/
def Extends (s t : State) : Prop :=
  (∃ l, t.outEvents = s.outEvents ++ l) ∧ t.config = s.config ∧ (s.config.variant = .single → t.disp1 = s.disp1)

theorem Extends.refl (s : State) : Extends s s := ⟨⟨[], by simp⟩, rfl, fun _ => rfl⟩

theorem Extends.trans {u : State} (h : Extends s t) (h' : Extends t u) : Extends s u := by
  obtain ⟨⟨l, hl⟩, hc, hd⟩ := h
  obtain ⟨⟨l', hl'⟩, hc', hd'⟩ := h'
  exact ⟨⟨l ++ l', by rw [hl', hl, List.append_assoc]⟩, hc'.trans hc,
    fun hv => (hd' (hc ▸ hv)).trans (hd hv)⟩

theorem TickMove.extends (hm : TickMove s t) : Extends s t := by
  cases hm with
  | position | refuse | row => exact .refl s
  | notify l => exact ⟨⟨l, rfl⟩, rfl, fun _ => rfl⟩
  | displays => exact ⟨⟨[], by simp⟩, by simp, fun hv => by rw [State.mapDisplays_single s _ hv]⟩

theorem Effect.extends (he : Effect i s t) : Extends s t := by
  cases he with
  | same | reads | refuse => exact .refl s
  | @edit b f _ hb =>
    refine ⟨⟨[], by simp⟩, by simp, fun hv => ?_⟩
    obtain rfl | rfl := BitVec.eq_zero_or_eq_one b
    · rfl
    · exact absurd hb (by simp [State.dispExists_one hv])
  | ticks n => exact State.ticks_keep_of_move (fun _ _ hm hs => hs.trans hm.extends) n.toNat (.refl s)

/-- The mark is absorbing: a marked state only returns read results (60_exceptions.md R755). -/
theorem Effect.keeps_refusal (he : Effect i s t) (h : s.refused ≠ none) : t.refused = s.refused := by
  cases he with
  | same | reads => rfl
  | refuse _ hr | edit hr | ticks _ _ hr => exact absurd hr h

/-- Settles O33: every effect of a transaction extends the history and keeps a recorded refusal. -/
theorem historyIsKept : Obligations.HistoryIsKept := by
  intro s t h
  obtain ⟨_, rfl⟩ | ⟨i, w, rest, _, he⟩ := step_cases h
  · exact ⟨⟨[], by simp⟩, rfl, fun _ => rfl, fun _ => rfl⟩
  · obtain ⟨hevents, hconfig, hdisp1⟩ := he.extends
    exact ⟨hevents, hconfig, he.keeps_refusal, hdisp1⟩

/-! ### The reset state -/

theorem Regs.get_reset (reg : Reg) : Regs.reset.get reg = 0 := by
  cases reg <;> rfl

theorem Display.pixel_reset (c : Config) (b : BitVec 1) (i : Fin 2) (y x : Nat) :
    (Display.reset c b).pixel i y x = Config.resetPixel b (decide (i = 1)) y x := by
  have empty : (Display.reset c b).buffer i = [] := ite_self _
  simp only [Display.pixel, empty, Sparse.find_nil]
  rfl

theorem Display.readByte_reset (c : Config) (b : BitVec 1) (sp : Space) (a : Nat) :
    (Display.reset c b).readByte sp a = Config.resetByte b sp a := by
  cases sp <;> rfl

theorem Display.objPixelAt_reset (c : Config) (b : BitVec 1) (x : Nat) :
    (Display.reset c b).objPixelAt x = none :=
  List.getElem?_getD_replicate_default_eq ..

theorem Display.objWin_reset (c : Config) (b : BitVec 1) (x : Nat) :
    (Display.reset c b).objWin.getD x false = false :=
  List.getElem?_getD_replicate_default_eq ..

/-- Settles O27: the table of R85, entry by entry. -/
theorem resetState : Obligations.ResetState :=
  ⟨rfl, rfl, rfl, rfl, rfl, rfl, Regs.get_reset, rfl, rfl, rfl, rfl, Display.objPixelAt_reset _ 0,
    Display.objWin_reset _ 0, rfl, rfl, rfl, rfl, Display.pixel_reset _ 0, Display.readByte_reset _ 0⟩

theorem positionInv_reset : PositionInv State.reset := ⟨rfl, by decide, by decide, rfl⟩

theorem maskedRegs_reset : MaskedRegs Regs.reset := by
  simp [MaskedRegs, Regs.reset]

theorem canonicalDisplay_reset (c : Config) (b : BitVec 1) : CanonicalDisplay c (Display.reset c b) :=
  ⟨fun sp => Display.memory_wf_reset c b sp _, rfl, rfl⟩

theorem shapedDisplay_reset (c : Config) (b : BitVec 1) : ShapedDisplay c (Display.reset c b) :=
  ⟨List.length_replicate, List.length_replicate, List.forall_mem_nil _, List.forall_mem_nil _⟩

/-- Settles O28: each invariant holds of each part of the reset state. -/
theorem resetMeetsInvariants : Obligations.ResetMeetsInvariants :=
  ⟨positionInv_reset, ⟨maskedRegs_reset, maskedRegs_reset⟩,
    ⟨canonicalDisplay_reset _ 0, canonicalDisplay_reset _ 1⟩, ⟨shapedDisplay_reset _ 0, shapedDisplay_reset _ 1⟩⟩

end Sys2Proof.Machine
end

section
/-! What every step keeps of each display: a property that the changes of a display keep is an invariant. The canonical
form of the memories and output buffers is one. -/

namespace Sys2Proof.Machine

variable {s t : State} {i : Instr} {b : BitVec 1} {c : Config} {f : Display → Display} {d : Display}
  {P : Config → Display → Prop}

/-! ### Properties of each display -/

/-- Every change that a step can make to a display keeps the property. -/
structure KeptByEdits (P : Config → Display → Prop) : Prop where
  /-- The transactions other than a `TICK` keep it. -/
  host : ∀ {c i b f d}, HostEdit c i b f → P c d → P c (f d)
  /-- What a tick does to every display keeps it. -/
  tick : ∀ {c f d}, TickEdit c f → P c d → P c (f d)
  /-- The render of a visible line keeps it. -/
  row : ∀ {c d l}, l < c.screenH → P c d → P c (d.writeRow l (Display.framebufferRow c d l))

/-- Every display instance of the machine has the property. -/
def EachDisplay (P : Config → Display → Prop) (s : State) : Prop := ∀ b, P s.config (s.display b)

theorem eachDisplay_iff : EachDisplay P s ↔ P s.config s.disp0 ∧ P s.config s.disp1 := by
  refine ⟨fun h => ⟨h 0, h 1⟩, fun ⟨h0, h1⟩ b => ?_⟩
  obtain rfl | rfl := BitVec.eq_zero_or_eq_one b
  · exact h0
  · exact h1

theorem KeptByEdits.tickMove (hP : KeptByEdits P) (hm : TickMove s t) (h : EachDisplay P s) : EachDisplay P t := by
  cases hm with
  | position | notify | refuse => exact h
  | row l hl =>
    rw [eachDisplay_iff] at h ⊢
    exact h.imp_left (hP.row hl)
  | displays hf =>
    intro b
    rw [State.display_mapDisplays, State.mapDisplays_config]
    split_ifs
    · exact hP.tick hf (h b)
    · exact h b

theorem KeptByEdits.effect (hP : KeptByEdits P) (he : Effect i s t) (h : EachDisplay P s) : EachDisplay P t := by
  cases he with
  | same | reads | refuse => exact h
  | edit _ _ hf =>
    intro b
    rw [State.display_modifyDisplay, State.modifyDisplay_config]
    split_ifs
    · exact hP.host hf (h b)
    · exact h b
  | ticks n => exact State.ticks_keep_of_move (fun _ _ hm => hP.tickMove hm) n.toNat h

/-- A property that the changes of a display keep is an invariant of the machine. -/
theorem KeptByEdits.of_step (hP : KeptByEdits P) (h : step s = .next t) (hs : EachDisplay P s) : EachDisplay P t := by
  obtain ⟨_, rfl⟩ | ⟨i, w, rest, _, he⟩ := step_cases h
  · exact hs
  · exact hP.effect he hs

/-! ### The canonical form of the memories and output buffers -/

@[simp] theorem Display.storeRefByte_buf0 (d : Display) (reg : Reg) (k : Nat) (v : Byte) :
    (d.storeRefByte reg k v).buf0 = d.buf0 := by
  simp [Display.storeRefByte]

@[simp] theorem Display.storeRefByte_buf1 (d : Display) (reg : Reg) (k : Nat) (v : Byte) :
    (d.storeRefByte reg k v).buf1 = d.buf1 := by
  simp [Display.storeRefByte]

@[simp] theorem Display.memory_storeRefByte (d : Display) (reg : Reg) (k : Nat) (v : Byte) (sp : Space) :
    (d.storeRefByte reg k v).memory sp = d.memory sp := by
  cases sp <;> simp [Display.memory, Display.storeRefByte]

@[simp] theorem Display.memory_writeRow (d : Display) (l : Nat) (row : List Color) (sp : Space) :
    (d.writeRow l row).memory sp = d.memory sp := by
  cases sp <;> simp [Display.memory]

theorem HostEdit.canonical (hf : HostEdit c i b f) (h : CanonicalDisplay c d) : CanonicalDisplay c (f d) := by
  cases hf with
  | ignored | store | ack => exact h
  | storeRef => simpa [CanonicalDisplay] using h
  | memory sp a v ha =>
    obtain ⟨hmem, hbuf⟩ := h
    exact ⟨fun sp' => Display.memory_wf_writeByte v (hmem sp') fun e => e ▸ ha, by simpa using hbuf⟩

theorem TickEdit.canonical (hf : TickEdit c f) (h : CanonicalDisplay c d) : CanonicalDisplay c (f d) := by
  cases hf with
  | vblankEntry | affineStep => exact h
  | spritePrerender l =>
    obtain ⟨buf, win, e, _⟩ := Display.spritePrerender_frame c l d
    rw [e]
    exact h

theorem Display.writeRow_canonical {l : Nat} (row : List Color) (hl : l < c.screenH) (h : CanonicalDisplay c d) :
    CanonicalDisplay c (d.writeRow l row) := by
  obtain ⟨hmem, hbuf⟩ := h
  exact ⟨fun sp => by simpa using hmem sp, Display.image_wf_writeRow row hl hbuf⟩

theorem canonicalDisplay_keptByEdits : KeptByEdits CanonicalDisplay where
  host := HostEdit.canonical
  tick := TickEdit.canonical
  row := Display.writeRow_canonical _

/-- Settles O31: a store goes below the size of its space and a render below the screen height (R210, R412), and
nothing else changes a memory or an output buffer. -/
theorem memoryStaysCanonical : Obligations.MemoryStaysCanonical :=
  fun _ _ hs h => eachDisplay_iff.1 (canonicalDisplay_keptByEdits.of_step h (eachDisplay_iff.2 hs))

end Sys2Proof.Machine
end

section
/-! The step on each form of the pending words. -/

namespace Sys2Proof.Machine

variable {s : State} {w : PortWord} {rest : List PortWord} {i : Instr}

theorem step_of_pending_nil (h : s.pending = []) : step s = .next s := by
  simp [step, h]

theorem step_of_decode_ok (h : s.pending = w :: rest) (hw : decode w = .ok i) :
    step s = exec i { s with pending := rest } := by
  simp [step, h, hw]

theorem step_of_decode_error {e : DecodeError} (h : s.pending = w :: rest) (hw : decode w = .error e) :
    step s = .next { s with pending := rest }.badWord := by
  simp [step, h, hw]

/-- A refused word records `BadPortWord` unless a refusal is recorded already (60_exceptions.md R755). -/
theorem State.badWord_eq (s : State) :
    s.badWord = { s with refused := if s.refused = none then some .badPortWord else s.refused } := by
  by_cases h : s.refused = none
  · rw [State.badWord_run h, if_pos h]
    rfl
  · rw [if_neg h]
    exact State.transact_marked h

theorem decode_of_decodeTableWord {nbits n : Nat} (h : decodeTableWord nbits n = some i) :
    decode (tableWord nbits n) = .ok i := by
  unfold decodeTableWord at h
  split at h
  next hw => rwa [Option.some.inj h] at hw
  next => nomatch h

/-- Settles O4: the equations of `step` for a word that decodes, one that does not, none, and a fetched one. -/
theorem stepRunsDecodedInstr : Obligations.StepRunsDecodedInstr :=
  ⟨fun _ _ _ _ => step_of_decode_ok,
    fun _ _ _ _ h hw => (step_of_decode_error h hw).trans (congrArg _ (State.badWord_eq _)),
    fun _ => step_of_pending_nil,
    fun s _ _ _ h => step_of_decode_ok (s := s.withFetchWord ..) rfl (decode_of_decodeTableWord h)⟩

end Sys2Proof.Machine
end

section
/-! The formats of the port words (30_encoding.md R203-R209): their fields, the words rebuilt from their fields, and the
registers of the offset map (R212). -/

namespace Sys2Proof

variable (disp : BitVec 1) (off : BitVec 12) (data : Byte) (y x : BitVec 8)

/-! ### The fields of the words -/

/-- The fields of a word made of three parts. -/
theorem fields_append_three {a b c : Nat} (p : BitVec a) (q : BitVec b) (r : BitVec c) :
    (p ++ (q ++ r)).extractLsb' (b + c) a = p ∧ (p ++ (q ++ r)).extractLsb' c b = q ∧
      (p ++ (q ++ r)).extractLsb' 0 c = r := by
  refine ⟨BitVec.extractLsb'_append_eq_left, ?_, ?_⟩
  · exact (extract_low _ _ _ _ (by omega)).trans BitVec.extractLsb'_append_eq_left
  · exact (extract_low _ _ _ _ (by omega)).trans BitVec.extractLsb'_append_eq_right

theorem payloadWord_fields (kind : BitVec 3) (payload : BitVec 29) :
    (kind ++ payload : PortWord).extractLsb' 29 3 = kind ∧ (kind ++ payload : PortWord).extractLsb' 0 29 = payload :=
  ⟨Laws.KindBits.high_bits .., BitVec.extractLsb'_append_eq_right⟩

theorem reservedSpaceWord_fields (payload : BitVec 27) :
    (encode (.memwr8ReservedSpace payload)).extractLsb' 29 3 = 4#3 ∧
      (encode (.memwr8ReservedSpace payload)).extractLsb' 27 2 = 3#2 ∧
      (encode (.memwr8ReservedSpace payload)).extractLsb' 0 27 = payload :=
  fields_append_three (4#3) (3#2) payload

theorem ackWord_fields :
    (encode (.ack disp)).extractLsb' 29 3 = 3#3 ∧ (encode (.ack disp)).extractLsb' 13 16 = 0#16 ∧
      (encode (.ack disp)).extractLsb' 12 1 = disp ∧ (encode (.ack disp)).extractLsb' 0 12 = 0#12 := by
  obtain rfl | rfl := BitVec.eq_zero_or_eq_one disp <;> decide

theorem rdpixWord_fields :
    (encode (.rdpix disp y x)).extractLsb' 29 3 = 5#3 ∧ (encode (.rdpix disp y x)).extractLsb' 17 12 = 0#12 ∧
      (encode (.rdpix disp y x)).extractLsb' 16 1 = disp ∧ (encode (.rdpix disp y x)).extractLsb' 8 8 = y ∧
      (encode (.rdpix disp y x)).extractLsb' 0 8 = x := by
  obtain ⟨hkind, hzero, hrest⟩ := fields_append_three (5#3) (0#12) (disp ++ (y ++ x))
  have low (lo len : Nat) (h : lo + len ≤ 17) :
      (encode (.rdpix disp y x)).extractLsb' lo len = (disp ++ (y ++ x)).extractLsb' lo len :=
    (extract_low (5#3) _ _ _ (by omega)).trans (extract_low (0#12) (disp ++ (y ++ x)) _ _ h)
  obtain ⟨hdisp, hy, hx⟩ := fields_append_three disp y x
  exact ⟨hkind, hzero, (low _ _ (by decide)).trans hdisp, (low _ _ (by decide)).trans hy,
    (low _ _ (by decide)).trans hx⟩

/-! ### Words equal in every field -/

/-- Words that agree in their low bits and in the field above these agree in both. -/
theorem extract_zero_congr {n lo len : Nat} {v w : BitVec n} (hlow : v.extractLsb' 0 lo = w.extractLsb' 0 lo)
    (hfield : v.extractLsb' lo len = w.extractLsb' lo len) :
    v.extractLsb' 0 (len + lo) = w.extractLsb' 0 (len + lo) := by
  have join (u : BitVec n) : u.extractLsb' lo len ++ u.extractLsb' 0 lo = u.extractLsb' 0 (len + lo) :=
    BitVec.extractLsb'_append_extractLsb'_eq_extractLsb' (Nat.zero_add lo).symm
  rw [← join, ← join, hlow, hfield]

theorem eq_of_extract_all {n : Nat} {v w : BitVec n} (h : v.extractLsb' 0 n = w.extractLsb' 0 n) : v = w := by
  simpa using h

variable {w : PortWord}

theorem payloadWord_eq {kind : BitVec 3} (hkind : w.extractLsb' 29 3 = kind) :
    (kind ++ w.extractLsb' 0 29 : PortWord) = w := by
  obtain ⟨ekind, epayload⟩ := payloadWord_fields kind (w.extractLsb' 0 29)
  exact eq_of_extract_all (extract_zero_congr epayload (ekind.trans hkind.symm))

theorem rd8Word_eq (hkind : w.extractLsb' 29 3 = 0#3) (hzero : w.extractLsb' 13 16 = 0#16) :
    rd8Word (w.extractLsb' 12 1) (w.extractLsb' 0 12) = w := by
  obtain ⟨ekind, ezero, edisp, eoff⟩ := rd8Word_fields (w.extractLsb' 12 1) (w.extractLsb' 0 12)
  exact eq_of_extract_all (extract_zero_congr (extract_zero_congr (extract_zero_congr eoff edisp)
    (ezero.trans hzero.symm)) (ekind.trans hkind.symm))

theorem wr8Word_eq (hkind : w.extractLsb' 29 3 = 1#3) (hhigh : w.extractLsb' 24 5 = 0#5)
    (hlow : w.extractLsb' 13 3 = 0#3) :
    wr8Word (w.extractLsb' 12 1) (w.extractLsb' 0 12) (w.extractLsb' 16 8) = w := by
  obtain ⟨ekind, ehigh, elow, edisp, eoff, edata⟩ :=
    wr8Word_fields (w.extractLsb' 12 1) (w.extractLsb' 0 12) (w.extractLsb' 16 8)
  exact eq_of_extract_all (extract_zero_congr (extract_zero_congr (extract_zero_congr (extract_zero_congr
    (extract_zero_congr eoff edisp) (elow.trans hlow.symm)) edata) (ehigh.trans hhigh.symm)) (ekind.trans hkind.symm))

theorem ackWord_eq (hkind : w.extractLsb' 29 3 = 3#3) (hhigh : w.extractLsb' 13 16 = 0#16)
    (hlow : w.extractLsb' 0 12 = 0#12) : encode (.ack (w.extractLsb' 12 1)) = w := by
  obtain ⟨ekind, ehigh, edisp, elow⟩ := ackWord_fields (w.extractLsb' 12 1)
  exact eq_of_extract_all (extract_zero_congr (extract_zero_congr (extract_zero_congr (elow.trans hlow.symm) edisp)
    (ehigh.trans hhigh.symm)) (ekind.trans hkind.symm))

theorem memwr8Word_eq {space : BitVec 2} (hkind : w.extractLsb' 29 3 = 4#3) (hspace : w.extractLsb' 27 2 = space)
    (hzero : w.extractLsb' 25 1 = 0#1) :
    memwr8Word space (w.extractLsb' 26 1) (w.extractLsb' 8 17) (w.extractLsb' 0 8) = w := by
  obtain ⟨ekind, espace, edisp, ezero, eaddr, edata⟩ :=
    memwr8Word_fields (w.extractLsb' 26 1) (w.extractLsb' 0 8) space (w.extractLsb' 8 17)
  exact eq_of_extract_all (extract_zero_congr (extract_zero_congr (extract_zero_congr (extract_zero_congr
    (extract_zero_congr edata eaddr) (ezero.trans hzero.symm)) edisp) (espace.trans hspace.symm))
    (ekind.trans hkind.symm))

theorem reservedSpaceWord_eq (hkind : w.extractLsb' 29 3 = 4#3) (hspace : w.extractLsb' 27 2 = 3#2) :
    encode (.memwr8ReservedSpace (w.extractLsb' 0 27)) = w := by
  obtain ⟨ekind, espace, epayload⟩ := reservedSpaceWord_fields (w.extractLsb' 0 27)
  exact eq_of_extract_all (extract_zero_congr (extract_zero_congr epayload (espace.trans hspace.symm))
    (ekind.trans hkind.symm))

theorem rdpixWord_eq (hkind : w.extractLsb' 29 3 = 5#3) (hzero : w.extractLsb' 17 12 = 0#12) :
    encode (.rdpix (w.extractLsb' 16 1) (w.extractLsb' 8 8) (w.extractLsb' 0 8)) = w := by
  obtain ⟨ekind, ezero, edisp, ey, ex⟩ :=
    rdpixWord_fields (w.extractLsb' 16 1) (w.extractLsb' 8 8) (w.extractLsb' 0 8)
  exact eq_of_extract_all (extract_zero_congr (extract_zero_congr (extract_zero_congr (extract_zero_congr ex ey) edisp)
    (ezero.trans hzero.symm)) (ekind.trans hkind.symm))

/-! ### The offset map -/

theorem slot_lt_iff (off : BitVec 12) : (off.extractLsb' 1 11).toNat < 0x30 ↔ off.toNat < 0x60 := by
  rw [BitVec.extractLsb'_toNat]; omega

theorem slot_ge_iff (off : BitVec 12) : 0x30 ≤ (off.extractLsb' 1 11).toNat ↔ 0x60 ≤ off.toNat := by
  rw [← Nat.not_lt, slot_lt_iff, Nat.not_lt]

/-- An offset is its slot, bits [11:1], without the low `k` bits, and the byte index of `k + 1` bits below. -/
theorem slot_append_byteIndex {off : BitVec 12} {n m k : Nat} {hi : BitVec m}
    (hslot : (off.extractLsb' 1 11).toNat = n) (hhi : hi.toNat = n / 2 ^ k) :
    (hi ++ off.extractLsb' 0 (k + 1)).toNat = off.toNat := by
  have hlt : off.toNat % 2 ^ (k + 1) < 2 ^ (k + 1) := Nat.mod_lt _ (by positivity)
  have hn : n = off.toNat / 2 := by
    rw [← hslot, BitVec.extractLsb'_toNat]; omega
  rw [BitVec.toNat_append, BitVec.extractLsb'_toNat, Nat.shiftRight_zero, ← Nat.shiftLeft_add_eq_or_of_lt hlt, hhi,
    Nat.shiftLeft_eq, hn, Nat.div_div_eq_div_mul, ← Nat.pow_succ', Nat.div_add_mod']

/-- Transaction `i` is the register access of the given word at an offset of a display. -/
def AtOffset (word : PortWord) (disp : BitVec 1) (off : BitVec 12) (i : Instr) : Prop :=
  encode i = word ∧ i.wellFormed = true ∧ ∀ c, i.legal c = (dispInRange c disp && decide (off.toNat < 0x60))

variable {word : PortWord} {i : Instr} {disp off data}

theorem atOffset_of_slot {n : Nat} (hslot : (off.extractLsb' 1 11).toNat = n) (hn : n < 0x30) (he : encode i = word)
    (hw : i.wellFormed = true) (hl : ∀ c, i.legal c = dispInRange c disp) : AtOffset word disp off i :=
  ⟨he, hw, fun c => by simp [hl, ← slot_lt_iff, hslot, hn]⟩

theorem atOffset_of_outOfRange (h : 0x30 ≤ (off.extractLsb' 1 11).toNat) (he : encode i = word)
    (hw : i.wellFormed = decide (0x60 ≤ off.toNat)) (hl : ∀ c, i.legal c = false) : AtOffset word disp off i :=
  have hoff := (slot_ge_iff off).1 h
  ⟨he, hw.trans (decide_eq_true hoff), fun c => by simp [hl, hoff]⟩

theorem decodeRd8_atOffset (disp : BitVec 1) (off : BitVec 12) :
    AtOffset (rd8Word disp off) disp off (decodeRd8 disp off) := by
  unfold decodeRd8
  split
  case h_49 => exact atOffset_of_outOfRange (by grind only) rfl rfl fun _ => rfl
  all_goals
    next hslot =>
      exact atOffset_of_slot hslot (by decide)
        (congrArg (rd8Word disp) (BitVec.eq_of_toNat_eq (slot_append_byteIndex hslot rfl))) rfl fun _ => rfl

theorem decodeWr8_atOffset (disp : BitVec 1) (off : BitVec 12) (data : Byte) :
    AtOffset (wr8Word disp off data) disp off (decodeWr8 disp off data) := by
  unfold decodeWr8
  split
  case h_49 => exact atOffset_of_outOfRange (by grind only) rfl rfl fun _ => rfl
  all_goals
    next hslot =>
      exact atOffset_of_slot hslot (by decide)
        (congrArg (wr8Word disp · data) (BitVec.eq_of_toNat_eq (slot_append_byteIndex hslot rfl))) rfl fun _ => rfl

theorem decodeRd8_outOfRange (disp : BitVec 1) (h : 0x60 ≤ off.toNat) :
    decodeRd8 disp off = .rd8OffOutOfRange disp off := by
  have slot := (slot_ge_iff off).2 h
  unfold decodeRd8
  split
  case h_49 => rfl
  all_goals omega

theorem decodeWr8_outOfRange (disp : BitVec 1) (data : Byte) (h : 0x60 ≤ off.toNat) :
    decodeWr8 disp off data = .wr8OffOutOfRange disp off data := by
  have slot := (slot_ge_iff off).2 h
  unfold decodeWr8
  split
  case h_49 => rfl
  all_goals omega

end Sys2Proof
end

section
/-! The words that decode, format by format: decoding and encoding are inverse to each other, and a word meets a
condition of 30_encoding.md R210 if it does not decode or decodes to a transaction outside the limits. -/

namespace Sys2Proof

variable {w : PortWord} {i : Instr} {disp : BitVec 1} {off : BitVec 12} {data : Byte}

/-- The words that decode and what they decode to, one case per format of 30_encoding.md R204-R209. -/
inductive Reads : PortWord → Instr → Prop where
  | rd8 (disp : BitVec 1) (off : BitVec 12) : Reads (rd8Word disp off) (decodeRd8 disp off)
  | wr8 (disp : BitVec 1) (off : BitVec 12) (data : Byte) : Reads (wr8Word disp off data) (decodeWr8 disp off data)
  | tick (n : BitVec 29) : Reads (encode (.tick n)) (.tick n)
  | ack (disp : BitVec 1) : Reads (encode (.ack disp)) (.ack disp)
  | memwr8Pal (disp : BitVec 1) (addr : BitVec 17) (data : Byte) :
      Reads (memwr8Word 0b00 disp addr data) (.memwr8Pal disp addr data)
  | memwr8Vram (disp : BitVec 1) (addr : BitVec 17) (data : Byte) :
      Reads (memwr8Word 0b01 disp addr data) (.memwr8Vram disp addr data)
  | memwr8Oam (disp : BitVec 1) (addr : BitVec 17) (data : Byte) :
      Reads (memwr8Word 0b10 disp addr data) (.memwr8Oam disp addr data)
  | memwr8ReservedSpace (payload : BitVec 27) :
      Reads (encode (.memwr8ReservedSpace payload)) (.memwr8ReservedSpace payload)
  | rdpix (disp : BitVec 1) (y x : BitVec 8) : Reads (encode (.rdpix disp y x)) (.rdpix disp y x)
  | reservedKind6 (payload : BitVec 29) : Reads (encode (.reservedKind6 payload)) (.reservedKind6 payload)
  | reservedKind7 (payload : BitVec 29) : Reads (encode (.reservedKind7 payload)) (.reservedKind7 payload)

/-! ### What the decoder answers -/

theorem Reads.decode_eq (h : Reads w i) : decode w = .ok i := by
  cases h with
  | rd8 => exact decode_rd8Word ..
  | wr8 => exact decode_wr8Word ..
  | tick n | reservedKind6 n | reservedKind7 n =>
    simp only [decode, encode, payloadWord_fields]
    rfl
  | ack =>
    obtain ⟨hkind, hhigh, hdisp, hlow⟩ := ackWord_fields ‹_›
    simp [decode, hkind, hhigh, hdisp, hlow, -BitVec.extractLsb'_toNat]
  | memwr8Pal disp addr data | memwr8Vram disp addr data | memwr8Oam disp addr data =>
    simp [decode, decodeMemwr8, memwr8Word_fields, -BitVec.extractLsb'_toNat]
  | memwr8ReservedSpace payload =>
    obtain ⟨hkind, hspace, hpayload⟩ := reservedSpaceWord_fields payload
    simp [decode, decodeMemwr8, hkind, hspace, hpayload, -BitVec.extractLsb'_toNat]
  | rdpix disp y x =>
    simp [decode, rdpixWord_fields, -BitVec.extractLsb'_toNat]

theorem Reads.of_eq {v : PortWord} (hw : v = w) (h : Reads v i) : Reads w i := hw ▸ h

theorem Reads.of_decodeMemwr8 (hkind : w.extractLsb' 29 3 = 4#3) (h : decodeMemwr8 w = .ok i) : Reads w i := by
  unfold decodeMemwr8 at h
  split at h
  next hspace =>
    obtain rfl := Except.ok.inj h
    exact .of_eq (reservedSpaceWord_eq hkind (BitVec.eq_of_toNat_eq hspace)) (.memwr8ReservedSpace _)
  next hspace =>
    dsimp only at h
    split_ifs at h with hzero
    split at h <;> obtain rfl := Except.ok.inj h
    next hpal => exact .of_eq (memwr8Word_eq (space := 0) hkind (BitVec.eq_of_toNat_eq hpal) hzero) (.memwr8Pal ..)
    next hvram => exact .of_eq (memwr8Word_eq (space := 1) hkind (BitVec.eq_of_toNat_eq hvram) hzero) (.memwr8Vram ..)
    next hpal hvram =>
      have hlt := (w.extractLsb' 27 2).isLt
      have hoam : (w.extractLsb' 27 2).toNat = 2 := by grind only
      exact .of_eq (memwr8Word_eq (space := 2) hkind (BitVec.eq_of_toNat_eq hoam) hzero) (.memwr8Oam ..)

theorem Reads.of_decode (h : decode w = .ok i) : Reads w i := by
  unfold decode at h
  split at h
  next hkind =>
    split_ifs at h with hzero
    obtain rfl := Except.ok.inj h
    exact .of_eq (rd8Word_eq (BitVec.eq_of_toNat_eq hkind) hzero) (.rd8 ..)
  next hkind =>
    split_ifs at h with hzero
    obtain rfl := Except.ok.inj h
    obtain ⟨hhigh, hlow⟩ := hzero
    exact .of_eq (wr8Word_eq (BitVec.eq_of_toNat_eq hkind) hhigh hlow) (.wr8 ..)
  next hkind =>
    obtain rfl := Except.ok.inj h
    exact .of_eq (payloadWord_eq (kind := 2) (BitVec.eq_of_toNat_eq hkind)) (.tick _)
  next hkind =>
    split_ifs at h with hzero
    obtain rfl := Except.ok.inj h
    obtain ⟨hhigh, hlow⟩ := hzero
    exact .of_eq (ackWord_eq (BitVec.eq_of_toNat_eq hkind) hhigh hlow) (.ack _)
  next hkind => exact .of_decodeMemwr8 (BitVec.eq_of_toNat_eq hkind) h
  next hkind =>
    split_ifs at h with hzero
    obtain rfl := Except.ok.inj h
    exact .of_eq (rdpixWord_eq (BitVec.eq_of_toNat_eq hkind) hzero) (.rdpix ..)
  next hkind =>
    obtain rfl := Except.ok.inj h
    exact .of_eq (payloadWord_eq (kind := 6) (BitVec.eq_of_toNat_eq hkind)) (.reservedKind6 _)
  next =>
    obtain rfl := Except.ok.inj h
    have hlt := (w.extractLsb' 29 3).isLt
    have hkind : (w.extractLsb' 29 3).toNat = 7 := by grind only
    exact .of_eq (payloadWord_eq (kind := 7) (BitVec.eq_of_toNat_eq hkind)) (.reservedKind7 _)

/-! ### Encoding and decoding -/

theorem Reads.encode_eq (h : Reads w i) : i.wellFormed = true ∧ encode i = w := by
  cases h with
  | rd8 disp off =>
    obtain ⟨hword, hwf, _⟩ := decodeRd8_atOffset disp off
    exact ⟨hwf, hword⟩
  | wr8 disp off data =>
    obtain ⟨hword, hwf, _⟩ := decodeWr8_atOffset disp off data
    exact ⟨hwf, hword⟩
  | tick | ack | memwr8Pal | memwr8Vram | memwr8Oam | memwr8ReservedSpace | rdpix | reservedKind6 | reservedKind7 =>
    exact ⟨rfl, rfl⟩

/-- Settles O2: each format is rebuilt from its fields. -/
theorem encodeOfDecode : Obligations.EncodeOfDecode :=
  fun _ _ h => (Reads.of_decode h).encode_eq

theorem Reads.rd8_of_eq (h : decodeRd8 disp off = i) : Reads (rd8Word disp off) i := h ▸ .rd8 disp off

theorem Reads.wr8_of_eq (h : decodeWr8 disp off data = i) : Reads (wr8Word disp off data) i := h ▸ .wr8 disp off data

/-- A well-formed transaction is what its word decodes to. A register access is found at each of its byte indices. -/
theorem reads_encode (hwf : i.wellFormed = true) : Reads (encode i) i := by
  cases i
  case rd8Dispcnt k | rd8Greenswap k | rd8Dispstat k | rd8Vcount k | rd8Bg0cnt k | rd8Bg1cnt k | rd8Bg2cnt k
      | rd8Bg3cnt k | rd8Bg0hofs k | rd8Bg0vofs k | rd8Bg1hofs k | rd8Bg1vofs k | rd8Bg2hofs k | rd8Bg2vofs k
      | rd8Bg3hofs k | rd8Bg3vofs k | rd8Bg2pa k | rd8Bg2pb k | rd8Bg2pc k | rd8Bg2pd k | rd8Bg2x k | rd8Bg2y k
      | rd8Bg3pa k | rd8Bg3pb k | rd8Bg3pc k | rd8Bg3pd k | rd8Bg3x k | rd8Bg3y k | rd8Win0h k | rd8Win1h k
      | rd8Win0v k | rd8Win1v k | rd8Winin k | rd8Winout k | rd8Mosaic k | rd8Unused04e k | rd8Bldcnt k
      | rd8Bldalpha k | rd8Bldy k | rd8Unused056 k | rd8Unused058 k =>
    refine .rd8_of_eq ?_
    fin_cases k <;> rfl
  case rd8OffOutOfRange => exact .rd8_of_eq (decodeRd8_outOfRange _ (of_decide_eq_true hwf))
  case wr8OffOutOfRange => exact .wr8_of_eq (decodeWr8_outOfRange _ _ (of_decide_eq_true hwf))
  case tick => exact .tick _
  case ack => exact .ack _
  case memwr8Pal => exact .memwr8Pal ..
  case memwr8Vram => exact .memwr8Vram ..
  case memwr8Oam => exact .memwr8Oam ..
  case memwr8ReservedSpace => exact .memwr8ReservedSpace _
  case rdpix => exact .rdpix ..
  case reservedKind6 => exact .reservedKind6 _
  case reservedKind7 => exact .reservedKind7 _
  all_goals -- the `WR8` of a register slot
    next k _ =>
      refine .wr8_of_eq ?_
      fin_cases k <;> rfl

/-- Settles O1: the word of a transaction is read as the case of its own format. -/
theorem decodeOfEncode : Obligations.DecodeOfEncode :=
  fun _ hwf => (reads_encode hwf).decode_eq

/-- Settles O3: the decoder evaluated on each word. -/
theorem sampleWordsDecode : Obligations.SampleWordsDecode := by
  unfold Obligations.SampleWordsDecode
  decide

/-! ### The words that R210 refuses -/

theorem decide_le_eq_not_lt (a b : Nat) : decide (a ≤ b) = !decide (b < a) := by
  rw [← decide_not, decide_eq_decide, Nat.not_lt]

/-- The conditions of R210 on a word that decodes are the limits on what it decodes to. -/
theorem Reads.badPortWord_eq (c : Config) (h : Reads w i) : badPortWord c w = !i.legal c := by
  cases h with
  | rd8 disp off =>
    obtain ⟨_, _, hlegal⟩ := decodeRd8_atOffset disp off
    simp only [badPortWord, ← BitVec.extractLsb'_toNat, rd8Word_fields, hlegal]
    simp [dispInRange, decide_le_eq_not_lt]
  | wr8 disp off data =>
    obtain ⟨_, _, hlegal⟩ := decodeWr8_atOffset disp off data
    simp only [badPortWord, ← BitVec.extractLsb'_toNat, wr8Word_fields, hlegal]
    simp [dispInRange, decide_le_eq_not_lt]
  | tick n | reservedKind6 n | reservedKind7 n =>
    simp only [badPortWord, ← BitVec.extractLsb'_toNat, encode, payloadWord_fields]
    rfl
  | ack disp =>
    simp only [badPortWord, ← BitVec.extractLsb'_toNat, ackWord_fields]
    simp [dispInRange, Instr.legal, decide_le_eq_not_lt]
  | memwr8Pal disp addr data | memwr8Vram disp addr data | memwr8Oam disp addr data =>
    simp only [badPortWord, ← BitVec.extractLsb'_toNat, memwr8Word_fields]
    simp [dispInRange, Instr.legal, decide_le_eq_not_lt]
  | memwr8ReservedSpace payload =>
    simp only [badPortWord, ← BitVec.extractLsb'_toNat, reservedSpaceWord_fields]
    simp [Instr.legal]
  | rdpix disp y x =>
    simp only [badPortWord, ← BitVec.extractLsb'_toNat, rdpixWord_fields]
    simp [dispInRange, Instr.legal, decide_le_eq_not_lt, Bool.or_right_comm]

theorem toNat_bne_zero {n : Nat} {x : BitVec n} (h : x ≠ 0) : (x.toNat != 0) = true :=
  bne_iff_ne.2 fun hx => h (BitVec.eq_of_toNat_eq hx)

theorem decodeMemwr8_error {e : DecodeError} (h : decodeMemwr8 w = .error e) : w.extractLsb' 25 1 ≠ 0 := by
  unfold decodeMemwr8 at h
  split at h
  · cases h
  · dsimp only at h
    split_ifs at h with hzero
    · split at h <;> cases h
    · exact hzero

/-- A word that does not decode has a must-be-zero bit set. -/
theorem badPortWord_of_decode_error (c : Config) {e : DecodeError} (h : decode w = .error e) :
    badPortWord c w = true := by
  unfold decode at h
  simp only [badPortWord, ← BitVec.extractLsb'_toNat]
  split at h
  next hkind =>
    split_ifs at h with hzero
    simp only [hkind, toNat_bne_zero hzero, Bool.true_or]
  next hkind =>
    split_ifs at h with hzero
    obtain hhigh | hlow := not_and_or.1 hzero
    · simp only [hkind, toNat_bne_zero hhigh, Bool.true_or]
    · simp only [hkind, toNat_bne_zero hlow, Bool.true_or, Bool.or_true]
  next => cases h
  next hkind =>
    split_ifs at h with hzero
    obtain hhigh | hlow := not_and_or.1 hzero
    · simp only [hkind, toNat_bne_zero hhigh, Bool.true_or]
    · simp only [hkind, toNat_bne_zero hlow, Bool.true_or, Bool.or_true]
  next hkind => simp only [hkind, toNat_bne_zero (decodeMemwr8_error h), Bool.true_or]
  next hkind =>
    split_ifs at h with hzero
    simp only [hkind, toNat_bne_zero hzero, Bool.true_or]
  next => cases h
  next => cases h

end Sys2Proof
end

section
/-! The frame of every transaction: what it refuses outside the limits of 30_encoding.md R210, and the step on the words
that R210 refuses. -/

namespace Sys2Proof.Machine

variable {s t : State} {i : Instr}

/-- The form of every transaction: a refused word, or a body run within the limits of R210, a read returning a draw of
its width under the mark (60_exceptions.md R755). -/
inductive Framed (i : Instr) (s : State) : State → Prop where
  | badWord (hi : i.legal s.config = false) : Framed i s s.badWord
  | write (body : State → State) (hi : i.kind ≠ 0b000 ∧ i.kind ≠ 0b101) :
      Framed i s (s.transact (i.legal s.config) body)
  | readByte (body : State → State) (hi : i.kind = 0b000) :
      Framed i s (s.transactRead (i.legal s.config) State.outputDrawByte body)
  | readPixel (body : State → State) (hi : i.kind = 0b101) :
      Framed i s (s.transactRead (i.legal s.config) State.outputDrawPixel body)

theorem exec_framed (i : Instr) (s : State) : ∃ t, exec i s = .next t ∧ Framed i s t := by
  cases i
  case rd8OffOutOfRange | wr8OffOutOfRange | memwr8ReservedSpace | reservedKind6 | reservedKind7 =>
    exact ⟨_, rfl, .badWord rfl⟩
  case tick | ack | memwr8Pal | memwr8Vram | memwr8Oam => exact ⟨_, rfl, .write _ (by simp [Instr.kind])⟩
  case rdpix => exact ⟨_, rfl, .readPixel _ rfl⟩
  case rd8Dispcnt | rd8Dispstat | rd8Vcount | rd8Bg0cnt | rd8Bg1cnt | rd8Bg2cnt | rd8Bg3cnt | rd8Winin | rd8Winout
      | rd8Bldcnt | rd8Bldalpha | rd8Greenswap | rd8Bg0hofs | rd8Bg0vofs | rd8Bg1hofs | rd8Bg1vofs | rd8Bg2hofs
      | rd8Bg2vofs | rd8Bg3hofs | rd8Bg3vofs | rd8Bg2pa | rd8Bg2pb | rd8Bg2pc | rd8Bg2pd | rd8Bg2x | rd8Bg2y
      | rd8Bg3pa | rd8Bg3pb | rd8Bg3pc | rd8Bg3pd | rd8Bg3x | rd8Bg3y | rd8Win0h | rd8Win1h | rd8Win0v | rd8Win1v
      | rd8Mosaic | rd8Unused04e | rd8Bldy | rd8Unused056 | rd8Unused058 =>
    exact ⟨_, rfl, .readByte _ rfl⟩
  all_goals -- `WR8`
    exact ⟨_, rfl, .write _ (by simp [Instr.kind])⟩

theorem Framed.refuses (h : Framed i s t) (hr : s.refused = none) (hi : i.legal s.config = false) :
    t = s.refuse .badPortWord := by
  cases h with
  | badWord => exact State.badWord_run hr
  | write => exact State.transact_bad hr hi
  | readByte | readPixel => simp [State.transactRead, hr, hi]

theorem exec_of_not_legal (hr : s.refused = none) (hi : i.legal s.config = false) :
    exec i s = .next { s with refused := some .badPortWord } := by
  obtain ⟨t, ht, hframed⟩ := exec_framed i s
  rw [ht, hframed.refuses hr hi, State.refuse]

/-- Settles O6: each transaction is a frame around its body, and outside the limits the frame refuses. -/
theorem illegalInstrMarked : Obligations.IllegalInstrMarked := by
  refine ⟨fun i s => exec_of_not_legal, fun s d off data p q hr i hi => exec_of_not_legal hr ?_⟩
  simp only [List.mem_cons, List.not_mem_nil, or_false] at hi
  obtain rfl | rfl | rfl | rfl | rfl := hi <;> rfl

theorem exec_tick_zero (s : State) : exec (.tick 0) s = .next s := by
  change Host.Outcome.next (s.transact true (State.ticks 0)) = .next s
  obtain ⟨_, e⟩ | ⟨_, _, e⟩ | ⟨_, h, _⟩ := s.transact_cases true (State.ticks 0)
  · rw [e]
  · rw [e, State.ticks_zero]
  · cases h

/-- Settles O5: a word of R210's list does not decode, or decodes to a transaction outside the limits. -/
theorem badPortWordsRefused : Obligations.BadPortWordsRefused := by
  refine ⟨fun s w rest hr hp => ?_, exec_tick_zero⟩
  cases hw : decode w with
  | ok i =>
    have hbad := (Reads.of_decode hw).badPortWord_eq s.config
    rw [step_of_decode_ok hp hw, hbad, Bool.not_eq_true', Bool.not_eq_false']
    exact ⟨exec_of_not_legal (s := { s with pending := rest }) hr, fun hi => ⟨i, rfl, hi, rfl⟩⟩
  | error e =>
    have hbad := badPortWord_of_decode_error s.config hw
    rw [step_of_decode_error hp hw, hbad]
    exact ⟨fun _ => congrArg _ (State.badWord_run hr), nofun⟩

end Sys2Proof.Machine
end

section
/-! The bytes of a register value, and the write masks as an invariant of every step (40_register_port.md R300). -/

namespace Sys2Proof.Machine

variable {i : Instr} {b : BitVec 1} {c : Config} {f : Display → Display} {d : Display}

/-! ### The bytes of a register value -/

/-- Bit `j` of byte `k` is bit `8k + j` of the value. -/
theorem getLsbD_byteOf (v : BitVec 32) (k j : Nat) :
    (byteOf v k).getLsbD j = (decide (j < 8) && v.getLsbD (8 * k + j)) := by
  simp [byteOf]

theorem getLsbD_ff (j : Nat) : (0xFF#32).getLsbD j = decide (j < 8) := by
  change ((BitVec.allOnes 8).setWidth 32).getLsbD j = _
  rw [BitVec.getLsbD_setWidth, BitVec.getLsbD_allOnes, ← Bool.decide_and, decide_eq_decide]
  omega

/-- A bit of a merged value: of the data within byte `k`, of the old value elsewhere, under the mask. -/
theorem getLsbD_mergeByte (old : BitVec 32) (k : Nat) (v : Byte) (m : BitVec 32) (j : Nat) :
    (mergeByte old k v m).getLsbD j =
      ((if 8 * k ≤ j ∧ j < 8 * k + 8 then v.getLsbD (j - 8 * k) else old.getLsbD j) && m.getLsbD j) := by
  by_cases hj : j < 32
  · simp only [mergeByte, BitVec.getLsbD_and, BitVec.getLsbD_or, BitVec.getLsbD_not, BitVec.getLsbD_shiftLeft,
      getLsbD_ff, BitVec.getLsbD_setWidth]
    split_ifs with hin
    · simp [hj, not_lt.2 hin.1, show j - 8 * k < 32 by omega, show j - 8 * k < 8 by omega]
    · by_cases hlo : j < 8 * k
      · simp [hj, hlo]
      · simp [hj, hlo, BitVec.getLsbD_of_ge v (j - 8 * k) (by omega), show ¬ j - 8 * k < 8 by omega]
  · simp [BitVec.getLsbD_of_ge _ _ (not_lt.1 hj)]

/-- The byte written holds the data under the mask. -/
theorem byteOf_mergeByte_self (old : BitVec 32) (k : Nat) (v : Byte) (m : BitVec 32) :
    byteOf (mergeByte old k v m) k = v &&& byteOf m k := by
  apply BitVec.eq_of_getLsbD_eq
  intro j hj
  rw [BitVec.getLsbD_and, getLsbD_byteOf, getLsbD_byteOf, getLsbD_mergeByte, if_pos (by omega)]
  simp [hj]

/-- Every other byte is the old one under the mask. -/
theorem byteOf_mergeByte_ne {k k' : Nat} (old : BitVec 32) (v : Byte) (m : BitVec 32) (h : k' ≠ k) :
    byteOf (mergeByte old k v m) k' = byteOf (old &&& m) k' := by
  apply BitVec.eq_of_getLsbD_eq
  intro j hj
  have : ¬(8 * k ≤ 8 * k' + j ∧ 8 * k' + j < 8 * k + 8) := by omega
  simp [getLsbD_byteOf, getLsbD_mergeByte, this]

/-- Settles O19: the merged value byte by byte, and the other registers by the laws of a byte write. -/
theorem byteWriteKeepsOtherBytes : Obligations.ByteWriteKeepsOtherBytes := by
  intro d reg k k' v _ _ hmask
  rw [Display.storeByte_get_self]
  exact ⟨fun hk => by rw [byteOf_mergeByte_ne _ _ _ hk, hmask], byteOf_mergeByte_self ..,
    fun _ hne => Display.storeByte_get_ne d k v hne⟩

/-! ### The write masks -/

theorem setWidth_and_mask (v : Half) (m : BitVec 32) :
    v.setWidth 32 &&& m = (v &&& m.setWidth 16).setWidth 32 := by
  apply BitVec.eq_of_getLsbD_eq
  intro j hj
  simp only [BitVec.getLsbD_and, BitVec.getLsbD_setWidth]
  by_cases hlow : j < 16
  · simp [hj, hlow]
  · simp [BitVec.getLsbD_of_ge v j (not_lt.1 hlow)]

/-- A 16-bit register lies within a mask at 32 bits exactly when it does at its own width. -/
theorem setWidth_masked_iff (v : Half) (m : BitVec 32) :
    v.setWidth 32 &&& m = v.setWidth 32 ↔ v &&& m.setWidth 16 = v := by
  rw [setWidth_and_mask]
  refine ⟨fun h => ?_, congrArg _⟩
  simpa using congrArg (BitVec.setWidth 16) h

/-- The masks of 10_state.md are those of the byte write; a register that `MaskedRegs` leaves out has a full one. -/
theorem maskedRegs_iff (r : Regs) : MaskedRegs r ↔ ∀ reg, r.get reg &&& reg.wmask = r.get reg := by
  have half {v : Half} {m : BitVec 32} := setWidth_masked_iff v m
  constructor
  · rintro ⟨_, _, _, _, _, _, _, _, _, _, _, _, _, _, _, _, _, _, _, _, _⟩ reg
    cases reg
    case bg2cnt | bg3cnt | bg2pa | bg2pb | bg2pc | bg2pd | bg3pa | bg3pb | bg3pc | bg3pd | win0h | win1h | win0v | win1v
        | mosaic =>
      exact half.2 BitVec.and_allOnes
    case bg2x | bg2y | bg3x | bg3y => assumption
    all_goals -- a 16-bit register with a mask
      exact half.2 ‹_›
  · intro h
    exact ⟨half.1 (h .dispcnt), half.1 (h .dispstat), half.1 (h .bg0cnt), half.1 (h .bg1cnt), half.1 (h .bg0hofs),
      half.1 (h .bg0vofs), half.1 (h .bg1hofs), half.1 (h .bg1vofs), half.1 (h .bg2hofs), half.1 (h .bg2vofs),
      half.1 (h .bg3hofs), half.1 (h .bg3vofs), h .bg2x, h .bg2y, h .bg3x, h .bg3y, half.1 (h .winin),
      half.1 (h .winout), half.1 (h .bldcnt), half.1 (h .bldalpha), half.1 (h .bldy)⟩

theorem Display.storeByte_masked (d : Display) (reg : Reg) (k : Nat) (v : Byte) (h : MaskedRegs d.regs) :
    MaskedRegs (d.storeByte reg k v).regs := by
  rw [maskedRegs_iff] at h ⊢
  intro reg'
  by_cases hr : reg' = reg
  · rw [hr, Display.storeByte_get_self, mergeByte_masked]
  · rw [Display.storeByte_get_ne d k v hr, h reg']

theorem HostEdit.masked (hf : HostEdit c i b f) (h : MaskedRegs d.regs) : MaskedRegs (f d).regs := by
  cases hf with
  | ignored | ack => exact h
  | store reg k v => exact d.storeByte_masked reg k v h
  | storeRef reg k v => simpa only [Display.storeRefByte, Display.reloadRef_regs] using d.storeByte_masked reg k v h
  | memory => rwa [Display.writeByte_regs]

theorem TickEdit.regs_eq (hf : TickEdit c f) (d : Display) : (f d).regs = d.regs := by
  cases hf with
  | vblankEntry | affineStep => rfl
  | spritePrerender l =>
    obtain ⟨buf, win, e, _⟩ := Display.spritePrerender_frame c l d
    rw [e]

theorem maskedRegs_keptByEdits : KeptByEdits fun _ d => MaskedRegs d.regs where
  host := HostEdit.masked
  tick hf h := by rwa [hf.regs_eq]
  row _ h := by rwa [Display.writeRow_regs]

/-- Settles O30: a store masks the value it writes, and nothing else changes a register. -/
theorem storedBitsStayMasked : Obligations.StoredBitsStayMasked :=
  fun _ _ hs h => eachDisplay_iff.1 (maskedRegs_keptByEdits.of_step h (eachDisplay_iff.2 hs))

end Sys2Proof.Machine
end

section
/-! The register port (40_register_port.md): what a read returns and what a write stores, on a SINGLE machine with no
refusal recorded. -/

namespace Sys2Proof.Machine

open Sys2Proof.Claims

variable {s : State} {w n l a j : Nat}

/-! ### The bytes of the claims -/

theorem halfByte_eq_extractLsb' (v : Half) (k : BitVec 1) : halfByte v k = v.extractLsb' (8 * k.toNat) 8 := by
  obtain rfl | rfl := BitVec.eq_zero_or_eq_one k <;> rfl

/-- Byte `k` of a 16-bit value is that byte of its zero extension. -/
theorem halfByte_eq_byteOf (v : Half) (k : BitVec 1) : halfByte v k = byteOf (v.setWidth 32) k.toNat := by
  apply BitVec.eq_of_getLsbD_eq
  intro j hj
  have hk := k.isLt
  rw [halfByte_eq_extractLsb', BitVec.getLsbD_extractLsb', getLsbD_byteOf, BitVec.getLsbD_setWidth,
    decide_eq_true (by omega : 8 * k.toNat + j < 32), Bool.true_and]

theorem getLsbD_extract_append (old : BitVec w) (x : BitVec n) (h : j < l + n) :
    (old.extractLsb' n l ++ x).getLsbD j = if j < n then x.getLsbD j else old.getLsbD j := by
  rw [BitVec.getLsbD_append]
  split_ifs with hj
  · rfl
  · rw [BitVec.getLsbD_extractLsb', decide_eq_true (by omega), Bool.true_and, Nat.add_sub_cancel' (not_lt.1 hj)]

theorem getLsbD_append_extract (old : BitVec w) (x : BitVec a) :
    (x ++ old.extractLsb' 0 n).getLsbD j = if j < n then old.getLsbD j else x.getLsbD (j - n) := by
  rw [BitVec.getLsbD_append]
  split_ifs with hj
  · rw [BitVec.getLsbD_extractLsb', decide_eq_true hj, Bool.true_and, Nat.zero_add]
  · rfl

/-- The generic byte write of a 16-bit register replaces one of its two bytes. -/
theorem mergeByte_half (old : Half) (k : BitVec 1) (v : Byte) (m : BitVec 32) :
    (mergeByte (old.setWidth 32) k.toNat v m).setWidth 16 = halfWrite old k v (m.setWidth 16) := by
  apply BitVec.eq_of_getLsbD_eq
  intro j hj
  have hj' : j < 32 := by omega
  simp only [halfWrite, BitVec.getLsbD_setWidth, getLsbD_mergeByte, BitVec.getLsbD_and, hj, hj', decide_true,
    Bool.true_and]
  congr 1
  obtain rfl | rfl := BitVec.eq_zero_or_eq_one k
  · change _ = (old.extractLsb' 8 8 ++ v).getLsbD j
    rw [getLsbD_extract_append _ _ hj]
    grind
  · change _ = (v ++ old.extractLsb' 0 8).getLsbD j
    rw [getLsbD_append_extract]
    grind

/-- The generic byte write of a 32-bit register replaces one of its four bytes. -/
theorem mergeByte_word (old : BitVec 32) (k : BitVec 2) (v : Byte) (m : BitVec 32) :
    mergeByte old k.toNat v m = wordWrite old k v m := by
  apply BitVec.eq_of_getLsbD_eq
  intro j hj
  rw [getLsbD_mergeByte, wordWrite, BitVec.getLsbD_and]
  congr 1
  obtain rfl | rfl | rfl | rfl : k = 0 ∨ k = 1 ∨ k = 2 ∨ k = 3 := by revert k; decide
  · change _ = (old.extractLsb' 8 24 ++ v).getLsbD j
    rw [getLsbD_extract_append _ _ hj]
    grind
  · change _ = (old.extractLsb' 16 16 ++ (v ++ old.extractLsb' 0 8)).getLsbD j
    rw [getLsbD_extract_append _ _ hj, getLsbD_append_extract]
    grind
  · change _ = (old.extractLsb' 24 8 ++ (v ++ old.extractLsb' 0 16)).getLsbD j
    rw [getLsbD_extract_append _ _ hj, getLsbD_append_extract]
    grind
  · change _ = (v ++ old.extractLsb' 0 24).getLsbD j
    rw [getLsbD_append_extract]
    grind

/-! ### Reads -/

/-- A read of a 16-bit read value returns the addressed byte of it (R301). -/
theorem readReg_half {val : Display → BitVec 32} {v : Half} (k : BitVec 1) (h : Ready s)
    (hv : val s.disp0 = v.setWidth 32) : s.readReg 0 k.toNat val = readsByte s (halfByte v k) := by
  obtain ⟨hr, hs⟩ := h
  rw [halfByte_eq_byteOf, ← hv]
  exact State.readReg_run hr hs

/-- Settles O9: each of these reads is the shared read of its register. -/
theorem rd8StoredRegisters : Obligations.Rd8StoredRegisters := by
  constructor
  · intro s k h
    simp only [List.forall_mem_cons, List.not_mem_nil, false_imp_iff, implies_true, and_true]
    and_intros <;> exact congrArg _ (readReg_half k h rfl)
  · rintro s ⟨⟨hmask, _⟩, _⟩
    rw [← hmask]
    simp [halfByte]

/-- The fields of the read value of `DISPSTAT` (R309). -/
theorem State.dispstatRead_fields (s : State) (d : Display) :
    (s.dispstatRead d).extractLsb' 8 8 = d.regs.dispstat.extractLsb' 8 8 ∧ (s.dispstatRead d).extractLsb' 6 2 = 0 ∧
      (s.dispstatRead d).extractLsb' 3 3 = d.regs.dispstat.extractLsb' 3 3 ∧
      (s.dispstatRead d).getLsbD 2 = s.vcountFlag d ∧ (s.dispstatRead d).getLsbD 1 = s.hblankFlag ∧
      (s.dispstatRead d).getLsbD 0 = s.vblankFlag := by
  unfold State.dispstatRead
  refine ⟨?_, ?_, ?_, ?_, ?_, ?_⟩
  case refine_4 | refine_5 | refine_6 =>
    repeat rw [BitVec.getLsbD_append]
    simp
  all_goals
    simp (disch := decide) only [extract_high, extract_low]
    exact BitVec.extractLsb'_eq_self

/-- Settles O10: the value read is `State.dispstatRead`, whose flags are those of R414. -/
theorem rd8DispstatLive : Obligations.Rd8DispstatLive := by
  intro s k h
  obtain ⟨hlyc, hzero, hen, hv, hh, hb⟩ := s.dispstatRead_fields s.disp0
  refine ⟨s.dispstatRead s.disp0, congrArg _ (readReg_half k h rfl), hlyc, hzero, hen, ?_, ?_, ?_⟩
  · rw [hv]
    exact decide_eq_true_iff
  · rw [hh]
    exact decide_eq_true_iff
  · rw [hb]
    simp [State.vblankFlag]

/-- The bytes of the read value of `VCOUNT` (R311). -/
theorem vcountRead_byte (s : State) (k : BitVec 1) :
    halfByte s.vcountRead k = if k = 0 then BitVec.ofNat 8 s.vcount else 0 := by
  apply BitVec.eq_of_toNat_eq
  obtain rfl | rfl := BitVec.eq_zero_or_eq_one k
  · simp [halfByte, State.vcountRead]
  · simp [halfByte, State.vcountRead]
    omega

theorem writeReg_ignored (h : Ready s) : s.writeReg 0 (fun d => d) = s := by
  obtain ⟨hr, hs⟩ := h
  exact State.writeReg_run hr hs

/-- Settles O11: byte 0 of the read value holds the line number, and the write is an ignored one. -/
theorem vcountRegister : Obligations.VcountRegister := by
  intro s k data h
  rw [← vcountRead_byte]
  exact ⟨congrArg _ (readReg_half k h rfl), congrArg _ (writeReg_ignored h)⟩

theorem readDraw_ready (h : Ready s) : s.readDraw 0 = drawsByte s := by
  obtain ⟨hr, hs⟩ := h
  exact State.readDraw_run hr hs

/-- Settles O12: each of these reads is the shared draw. -/
theorem rd8WriteOnlyDraws : Obligations.Rd8WriteOnlyDraws := by
  intro s k j h
  simp only [List.forall_mem_cons, List.not_mem_nil, false_imp_iff, implies_true, and_true]
  and_intros <;> exact congrArg _ (readDraw_ready h)

/-- Settles O13: the reads are the shared draw, the writes are ignored ones. -/
theorem unusedOffsets : Obligations.UnusedOffsets := by
  intro s k j data h
  simp only [List.forall_mem_cons, List.not_mem_nil, false_imp_iff, implies_true, and_true]
  constructor
  · and_intros <;> exact congrArg _ (readDraw_ready h)
  · and_intros <;> exact congrArg _ (writeReg_ignored h)

/-- Settles O14: the write runs its body, which looks at the data only. -/
theorem greenSwapSlot : Obligations.GreenSwapSlot := by
  intro s k data h
  have run (v : Byte) : exec (.wr8Greenswap 0 k v) s = .next (if v = 0 then s else s.refuse .greenSwapUnmodelled) := by
    obtain ⟨hr, hs⟩ := h
    exact congrArg _ ((State.transact_run hr (State.dispExists_zero s)).trans (State.registerAccess_single hs))
  exact ⟨run 0, fun hd => (run data).trans (congrArg _ (if_neg hd)), congrArg _ (readDraw_ready h)⟩

/-! ### Writes -/

/-- A byte write replaces one register of display 0 by its merged value (R300). -/
theorem writeReg_storeByte {reg : Reg} {k : Nat} {v : Byte} {r : Regs} (h : Ready s)
    (hreg : s.disp0.regs.set reg (mergeByte (s.disp0.regs.get reg) k v reg.wmask) = r) :
    s.writeReg 0 (fun d => d.storeByte reg k v) = withRegs s r := by
  obtain ⟨hr, hs⟩ := h
  exact hreg ▸ State.writeReg_run hr hs

/-- Settles O15: each write is the generic byte write of its register. -/
theorem wr8ControlRegisters : Obligations.Wr8ControlRegisters := by
  rintro s k v _ h rfl
  simp only [List.forall_mem_cons, List.not_mem_nil, false_imp_iff, implies_true, and_true]
  and_intros <;>
    exact congrArg _ (writeReg_storeByte h (by simp [Regs.set, Regs.get, Reg.wmask, mergeByte_half]))

/-- Settles O16: each write is the generic byte write of its register, which touches no internal point. -/
theorem wr8ScrollAndMatrix : Obligations.Wr8ScrollAndMatrix := by
  rintro s k v _ h rfl
  simp only [List.forall_mem_cons, List.not_mem_nil, false_imp_iff, implies_true, and_true]
  and_intros <;>
    exact congrArg _ (writeReg_storeByte h (by simp [Regs.set, Regs.get, Reg.wmask, mergeByte_half]))

/-- Settles O17: each write is the generic byte write of its register. -/
theorem wr8WindowsMosaicBlend : Obligations.Wr8WindowsMosaicBlend := by
  rintro s k v _ h rfl
  simp only [List.forall_mem_cons, List.not_mem_nil, false_imp_iff, implies_true, and_true]
  and_intros <;>
    exact congrArg _ (writeReg_storeByte h (by simp [Regs.set, Regs.get, Reg.wmask, mergeByte_half]))

/-- Settles O18: the generic byte write, then the reload from what it stored. -/
theorem wr8ReferencePoints : Obligations.Wr8ReferencePoints := by
  rintro s k v _ _ ⟨hr, hs⟩ rfl
  and_intros
  all_goals
    rintro rfl
    rw [← mergeByte_word]
    exact congrArg _ (State.writeReg_run hr hs)

/-! ### Memories and the host -/

/-- Settles O23: the transaction runs on a display that exists. -/
theorem ackClearsFrameReady : Obligations.AckClearsFrameReady := by
  refine fun s hr => ⟨congrArg _ (State.transact_run hr (State.dispExists_zero s)), fun hv => ?_⟩
  exact congrArg _ (State.transact_run hr (by simp [State.dispExists, Config.numDisplays, hv]))

/-- From `s` to `t` one byte of a memory of display `disp` is stored and nothing else changes. -/
def StoresByte (s t : State) (sp : Space) (disp : BitVec 1) (a : Nat) (v : Byte) : Prop :=
  (t.display disp).readByte sp a = v ∧
    (∀ sp' a', sp' ≠ sp ∨ a' ≠ a → (t.display disp).readByte sp' a' = (s.display disp).readByte sp' a') ∧
    (∀ disp', disp' ≠ disp → t.display disp' = s.display disp') ∧
    t = { s with disp0 := t.disp0, disp1 := t.disp1 } ∧
    t.display disp = { s.display disp with
      pal := (t.display disp).pal, vram := (t.display disp).vram, oam := (t.display disp).oam }

theorem State.modifyDisplay_frame (s : State) (b : BitVec 1) (f : Display → Display) :
    s.modifyDisplay b f = { s with disp0 := (s.modifyDisplay b f).disp0, disp1 := (s.modifyDisplay b f).disp1 } := by
  unfold State.modifyDisplay
  split <;> rfl

theorem Display.writeByte_frame (d : Display) (sp : Space) (a : Nat) (v : Byte) :
    d.writeByte sp a v = { d with
      pal := (d.writeByte sp a v).pal, vram := (d.writeByte sp a v).vram, oam := (d.writeByte sp a v).oam } := by
  cases sp <;> rfl

theorem modifyDisplay_writeByte_storesByte (s : State) (sp : Space) (disp : BitVec 1) (a : Nat) (v : Byte) :
    StoresByte s (s.modifyDisplay disp fun d => d.writeByte sp a v) sp disp a v := by
  have hdisp (b : BitVec 1) := s.display_modifyDisplay disp b fun d => d.writeByte sp a v
  have hself := (hdisp disp).trans (if_pos rfl)
  refine ⟨?_, fun sp' a' hne => ?_, fun disp' hne => (hdisp disp').trans (if_neg hne), s.modifyDisplay_frame .., ?_⟩
  · rw [hself, Display.readByte_writeByte_self]
  · rw [hself, Display.readByte_writeByte_ne v hne]
  · rw [hself]
    exact Display.writeByte_frame ..

/-- Settles O22: the three spaces share the store, and the reserved one is refused outright. -/
theorem memwr8StoresOneByte : Obligations.Memwr8StoresOneByte := by
  intro s disp addr v payload hr hd
  have hd : s.dispExists disp = true := decide_eq_true hd
  have store (sp : Space) :
      (addr.toNat < s.config.spaceBytes sp →
        ∃ t, Host.Outcome.next (s.memWrite sp disp addr v) = (.next t : Host.Outcome State Fault Refusal) ∧
          StoresByte s t sp disp addr.toNat v) ∧
      (s.config.spaceBytes sp ≤ addr.toNat →
        Host.Outcome.next (s.memWrite sp disp addr v) =
          (.next (s.refuse .badPortWord) : Host.Outcome State Fault Refusal)) := by
    refine ⟨fun ha => ⟨_, congrArg _ (State.transact_run hr ?_), modifyDisplay_writeByte_storesByte ..⟩,
      fun ha => congrArg _ (State.transact_bad hr ?_)⟩
    · simp [hd, ha]
    · simp [ha]
  simp only [List.forall_mem_cons, List.not_mem_nil, false_imp_iff, implies_true, and_true]
  exact ⟨⟨store .pal, store .vram, store .oam⟩, congrArg _ (State.badWord_run hr)⟩

/-- The front buffer is the one that is not the back buffer (10_state.md R71). -/
theorem Display.buffer_front (d : Display) : d.buffer (1 - d.back) = if d.back = 0 then d.buf1 else d.buf0 := by
  unfold Display.buffer
  generalize d.back = b
  fin_cases b <;> rfl

theorem front_index_eq_one (b : Fin 2) : decide (1 - b = 1) = decide (b = 0) := by
  fin_cases b <;> rfl

theorem Display.frontPixel_of_row {d : Display} {y x : Nat} {row : List Color}
    (h : Sparse.find (if d.back = 0 then d.buf1 else d.buf0) y = some row) (hx : x < row.length) :
    d.frontPixel y x = row[x] := by
  rw [Display.frontPixel, Display.pixel, Display.buffer_front, h]
  exact List.getD_eq_getElem _ _ hx

theorem Display.frontPixel_of_no_row {d : Display} {y x : Nat}
    (h : Sparse.find (if d.back = 0 then d.buf1 else d.buf0) y = none) :
    d.frontPixel y x = Config.resetPixel d.index (decide (d.back = 0)) y x := by
  rw [Display.frontPixel, Display.pixel, Display.buffer_front, h]
  exact congrArg (Config.resetPixel d.index · y x) (front_index_eq_one d.back)

/-- Settles O24: within the screen the read returns `Display.frontPixel`; outside it is refused. -/
theorem rdpixReadsFront : Obligations.RdpixReadsFront := by
  rintro s disp x y _ _ hr hd rfl rfl
  have hd : s.dispExists disp = true := decide_eq_true hd
  constructor
  · intro hx hy
    refine ⟨(s.display disp).frontPixel y.toNat x.toNat, congrArg _ (State.transactRead_run hr ?_), ?_, ?_⟩
    · simp [hd, hx, hy]
    · exact fun row hrow hlt => Display.frontPixel_of_row hrow hlt
    · exact fun hrow => Display.frontPixel_of_no_row hrow
  · intro hoff
    refine exec_of_not_legal hr ?_
    obtain hx | hy := hoff
    · simp [Instr.legal, hx]
    · simp [Instr.legal, hy]

end Sys2Proof.Machine
end

section
/-! The scanline timing (41_scanline_timing_fsm.md): the equations of a tick, and what a `TICK` does at each kind of
instant of a SINGLE machine. -/

namespace Sys2Proof.Machine

open Sys2Proof.Claims

variable {s t : State}

/-! ### A `TICK` as a number of ticks -/

/-- A `TICK` runs its ticks, none of them under the mark. -/
theorem exec_tick (n : BitVec 29) (s : State) : exec (.tick n) s = .next (State.ticks n.toNat s) := by
  change Host.Outcome.next (s.transact true (State.ticks n.toNat)) = _
  by_cases h : s.refused = none
  · rw [State.transact_run h rfl]
  · rw [State.transact_marked h, State.ticks_marked _ h]

theorem ticks_of_exec_tick {n : BitVec 29} (h : exec (.tick n) s = .next t) : State.ticks n.toNat s = t :=
  Host.Outcome.next.inj ((exec_tick n s).symm.trans h)

theorem exec_tick_one (h : s.refused = none) : exec (.tick 1) s = .next s.step1 :=
  (exec_tick 1 s).trans (congrArg _ (State.ticks_succ 0 h))

theorem State.ticks_add (a b : Nat) (s : State) : State.ticks (a + b) s = State.ticks b (State.ticks a s) := by
  induction a generalizing s with
  | zero => rw [Nat.zero_add, State.ticks_zero]
  | succ a ih =>
    by_cases h : s.refused = none
    · rw [Nat.add_right_comm, State.ticks_succ _ h, ih, State.ticks_succ _ h]
    · rw [State.ticks_marked _ h, State.ticks_marked _ h, State.ticks_marked _ h]

/-- Settles O34: the ticks compose. -/
theorem tickComposes : Obligations.TickComposes := by
  intro s t a b n hn h
  rw [exec_tick, exec_tick, ← hn, State.ticks_add, ticks_of_exec_tick h]

/-! ### The three kinds of ticks (R402) -/

@[simp] theorem State.enterHBlank_config (s : State) : s.enterHBlank.config = s.config := by
  unfold State.enterHBlank
  cases s.phase <;> rfl

@[simp] theorem State.enterHBlank_lineTicks (s : State) : s.enterHBlank.lineTicks = s.lineTicks := by
  unfold State.enterHBlank
  cases s.phase <;> rfl

theorem State.step1_inside (hd : s.lineTicks + 1 ≠ s.config.hDrawTicks) (ht : s.lineTicks + 1 ≠ s.config.hTotal) :
    s.step1 = { s with lineTicks := s.lineTicks + 1 } := by
  simp [State.step1, State.hblankPart, State.lineEndPart, hd, ht]

theorem State.step1_hblank (hd : s.lineTicks + 1 = s.config.hDrawTicks) (ht : s.lineTicks + 1 ≠ s.config.hTotal) :
    s.step1 = { s with lineTicks := s.lineTicks + 1 }.enterHBlank := by
  simp [State.step1, State.hblankPart, State.lineEndPart, hd, hd ▸ ht]

theorem State.step1_lineEnd (hd : s.lineTicks + 1 ≠ s.config.hDrawTicks) (ht : s.lineTicks + 1 = s.config.hTotal) :
    s.step1 = { s with lineTicks := 0 }.endLine := by
  simp [State.step1, State.hblankPart, State.lineEndPart, ht, ht ▸ hd]

/-- Ticks that reach neither the hblank entry nor the line end only count. -/
theorem State.ticks_inside {n : Nat} (hr : s.refused = none)
    (h : ∀ k < n, s.lineTicks + k + 1 ≠ s.config.hDrawTicks ∧ s.lineTicks + k + 1 ≠ s.config.hTotal) :
    State.ticks n s = { s with lineTicks := s.lineTicks + n } := by
  induction n generalizing s with
  | zero => rfl
  | succ n ih =>
    obtain ⟨hd, ht⟩ := h 0 n.succ_pos
    rw [State.ticks_succ n hr, State.step1_inside hd ht, ih]
    · simp [Nat.add_assoc, Nat.add_comm 1]
    · exact hr
    · intro k hk
      simpa [Nat.add_assoc, Nat.add_comm 1] using h (k + 1) (Nat.succ_lt_succ hk)

/-- Settles O35: none of the ticks counted is the hblank entry or the line end. -/
theorem tickInsideLinePart : Obligations.TickInsideLinePart := by
  intro s n hr h
  rw [exec_tick, State.ticks_inside hr fun k hk => ?_]
  omega

/-! ### The ticks of a SINGLE machine -/

theorem State.emitIrq_single (h : s.config = Config.single) (e : Event) (en : Display → Bool) :
    s.emitIrq e en = { s with outEvents := s.outEvents ++ irqIf (en s.disp0) e } := by
  simp only [State.emitIrq, State.irqDisplays, h, Config.single, irqIf]
  cases hen : en s.disp0 <;> simp [hen]

theorem State.step1_inside_single (hc : s.config = Config.single) (hd : s.lineTicks ≠ 959)
    (ht : s.lineTicks ≠ 1231) : s.step1 = { s with lineTicks := s.lineTicks + 1 } := by
  apply State.step1_inside <;> rw [hc] <;> simp [Config.single, Config.hTotal, hd, ht]

theorem State.step1_hblank_single (hc : s.config = Config.single) (ht : s.lineTicks = 959) :
    s.step1 = { s with lineTicks := 960 }.enterHBlank := by
  rw [State.step1_hblank, ht] <;> rw [hc, ht] <;> decide

/-- The hblank entry of a visible line (R403). -/
theorem State.step1_drawing (hc : s.config = Config.single) (ht : s.lineTicks = 959) (hp : s.phase = .drawing) :
    s.step1 = { s with
      lineTicks := 960
      phase := .hblank
      outEvents := s.outEvents ++ [.dmaHblank] ++ irqIf s.disp0.regs.hblankIrqEn .irqHblank } := by
  simp [State.step1_hblank_single hc ht, State.enterHBlank, hp, State.emitIrq_single, State.emit, hc]

/-- The hblank entry of a blanking line (R404). -/
theorem State.step1_vblank (hc : s.config = Config.single) (ht : s.lineTicks = 959) (hp : s.phase = .vblank) :
    s.step1 = { s with
      lineTicks := 960
      phase := .vblankHblank
      outEvents := s.outEvents ++ irqIf s.disp0.regs.hblankIrqEn .irqHblank } := by
  simp [State.step1_hblank_single hc ht, State.enterHBlank, hp, State.emitIrq_single, hc]

/-- Settles O36: the two cases of `EnterHBlank`. -/
theorem tickEntersHblank : Obligations.TickEntersHblank := by
  intro s hr hc ht
  rw [exec_tick_one hr]
  exact ⟨fun hp => congrArg _ (State.step1_drawing hc ht hp), fun hp => congrArg _ (State.step1_vblank hc ht hp)⟩

theorem State.step1_endLine (hc : s.config = Config.single) (ht : s.lineTicks = 1231) :
    s.step1 = { s with lineTicks := 0, vcount := (s.vcount + 1) % 228 }.enterLine := by
  rw [State.step1_lineEnd, State.endLine] <;> simp [hc, ht, Config.single, Config.hTotal]

/-- The line entry up to the vcount check (R405, R410). -/
theorem State.vcountCheck_atLine (hc : s.config = Config.single) (l : Nat) (p : Phase) :
    { s with lineTicks := 0, vcount := l, phase := p }.vcountCheck = atLine s l p [] := by
  simp [State.vcountCheck, State.emitIrq_single, atLine, hc]

/-- The entry into a visible line up to its render (R405). -/
theorem State.step1_visibleLine (hc : s.config = Config.single) (ht : s.lineTicks = 1231) {l : Nat}
    (hl : l = (s.vcount + 1) % 228) (hv : l < 160) :
    s.step1 = ((atLine s l .drawing []).renderLine l).afterRender l := by
  have hw : (atLine s l .drawing []).wrapPrerender l = atLine s l .drawing [] :=
    if_neg (by simp [atLine, hc, Config.single])
  rw [State.step1_endLine hc ht, ← hl, State.enterLine, if_pos (by simpa [hc, Config.single] using hv),
    State.vcountCheck_atLine hc, State.visibleLineStart, hw]

/-- The display after the entry into a visible line `l`: the row, the affine step, the next line's sprites (R406). -/
def Display.enterVisible (d : Display) (l : Nat) : Display :=
  let rendered := (d.writeRow l (Display.framebufferRow Config.single d l)).affineStep
  if l < 159 then Display.spritePrerender Config.single (l + 1) rendered else rendered

theorem State.renderLine_validMode (hc : s.config = Config.single) (hm : s.disp0.regs.bgMode < 6) (l : Nat) :
    s.renderLine l = { s with disp0 := s.disp0.writeRow l (Display.framebufferRow Config.single s.disp0 l) } := by
  simp [State.renderLine, hc, Config.single, Regs.invalidBgMode, hm]

theorem State.renderLine_invalidMode (hc : s.config = Config.single) (hm : 6 ≤ s.disp0.regs.bgMode) (l : Nat) :
    s.renderLine l = s.refuse .invalidBgMode := by
  simp [State.renderLine, hc, Config.single, Regs.invalidBgMode, hm]

theorem State.afterRender_marked (h : s.refused ≠ none) (l : Nat) : s.afterRender l = s :=
  if_pos (Option.isSome_iff_ne_none.2 h)

theorem State.mapDisplays_config_single (hc : s.config = Config.single) (f : Display → Display) :
    s.mapDisplays f = { s with disp0 := f s.disp0 } :=
  State.mapDisplays_single s f (by rw [hc]; rfl)

theorem State.spritePrerender_single (hc : s.config = Config.single) (l : Nat) :
    s.spritePrerender l = { s with disp0 := Display.spritePrerender Config.single l s.disp0 } := by
  rw [State.spritePrerender, State.mapDisplays_config_single hc, hc]

theorem State.afterRender_single (hr : s.refused = none) (hc : s.config = Config.single) (l : Nat) :
    s.afterRender l = { s with
      disp0 := if l < 159 then Display.spritePrerender Config.single (l + 1) s.disp0.affineStep
        else s.disp0.affineStep } := by
  have hl : l + 1 < s.config.screenH ↔ l < 159 := by rw [hc]; exact Nat.succ_lt_succ_iff
  rw [State.afterRender, if_neg (by simp [hr]), State.mapDisplays_config_single hc]
  simp only [hl]
  split_ifs
  · exact State.spritePrerender_single (by exact hc) _
  · rfl

theorem State.step1_validMode (hr : s.refused = none) (hc : s.config = Config.single) (ht : s.lineTicks = 1231)
    {l : Nat} (hl : l = (s.vcount + 1) % 228) (hv : l < 160) (hm : s.disp0.regs.bgMode < 6) :
    s.step1 = { atLine s l .drawing [] with disp0 := s.disp0.enterVisible l } := by
  rw [State.step1_visibleLine hc ht hl hv, State.renderLine_validMode (s := atLine s l .drawing []) hc hm,
    State.afterRender_single]
  · rfl
  · exact hr
  · exact hc

theorem State.step1_invalidMode (hc : s.config = Config.single) (ht : s.lineTicks = 1231)
    {l : Nat} (hl : l = (s.vcount + 1) % 228) (hv : l < 160) (hm : 6 ≤ s.disp0.regs.bgMode) :
    s.step1 = { atLine s l .drawing [] with refused := some .invalidBgMode } := by
  rw [State.step1_visibleLine hc ht hl hv, State.renderLine_invalidMode (s := atLine s l .drawing []) hc hm,
    State.afterRender_marked (Option.some_ne_none _)]
  rfl

/-- Settles O37: the render runs in modes 0 to 5. -/
theorem tickEntersVisibleLine : Obligations.TickEntersVisibleLine := by
  intro s l hr hc ht hl hv hm
  rw [exec_tick_one hr, State.step1_validMode hr hc ht hl hv hm]
  rfl

/-- Settles O38: the first tick is refused at its render, and no tick runs under the mark. -/
theorem invalidModeStopsTick : Obligations.InvalidModeStopsTick := by
  intro s l n hr hc ht hl hv hm hn
  obtain ⟨k, hk⟩ := Nat.exists_eq_add_of_le' hn
  rw [exec_tick, hk, State.ticks_succ k hr, State.step1_invalidMode hc ht hl hv hm, State.ticks_marked]
  exact Option.some_ne_none _

theorem State.vblankStart_single (hc : s.config = Config.single) :
    s.vblankStart = { s with
      outEvents := s.outEvents ++ ([.dmaVblank] ++ irqIf s.disp0.regs.vblankIrqEn .irqVblank)
      disp0 := s.disp0.vblankEntry } := by
  simp [State.vblankStart, State.emit, State.emitIrq_single, State.mapDisplays_config_single, hc]

/-- The entry into vblank (R405, R407). -/
theorem State.step1_vblankEntry (hc : s.config = Config.single) (ht : s.lineTicks = 1231) (hv : s.vcount = 159) :
    s.step1 = { atLine s 160 .vblank ([.dmaVblank] ++ irqIf s.disp0.regs.vblankIrqEn .irqVblank) with
      disp0 := s.disp0.vblankEntry } := by
  rw [State.step1_endLine hc ht, hv, State.enterLine, if_neg, if_pos, State.vblankStart_single, State.vcountCheck,
    State.emitIrq_single]
  · rfl
  all_goals simp [hc, Config.single]

/-- Settles O39: the vblank entry of the machine and of its display. -/
theorem tickEntersVblank : Obligations.TickEntersVblank := by
  intro s hr hc ht hv
  rw [exec_tick_one hr, State.step1_vblankEntry hc ht hv]
  rfl

/-- The display after the entry into the blanking line that follows line `v`: before the wrap the sprites of line 0
(R409). -/
def Display.enterBlanking (d : Display) (v : Nat) : Display :=
  if v = 226 then Display.spritePrerender Config.single 0 d else d

theorem State.lastLinePrerender_single (hc : s.config = Config.single) :
    s.lastLinePrerender = { s with
      disp0 := if s.vcount = 227 then Display.spritePrerender Config.single 0 s.disp0 else s.disp0 } := by
  have hl : s.vcount + 1 = s.config.totalLines ∧ s.config.objLine0Prerender = .lastLineStart ↔ s.vcount = 227 := by
    simp [hc, Config.single]
  simp only [State.lastLinePrerender, hl]
  split_ifs
  · exact State.spritePrerender_single hc _
  · rfl

/-- The entry into another blanking line (R405, R408). -/
theorem State.step1_blankingLine (hc : s.config = Config.single) (ht : s.lineTicks = 1231) (hv : 160 ≤ s.vcount)
    (hv' : s.vcount < 227) :
    s.step1 = { atLine s (s.vcount + 1) .vblank [] with disp0 := s.disp0.enterBlanking s.vcount } := by
  have hmod : (s.vcount + 1) % 228 = s.vcount + 1 := Nat.mod_eq_of_lt (by omega)
  rw [State.step1_endLine hc ht, hmod, State.enterLine, if_neg, if_neg, State.vcountCheck_atLine hc,
    State.lastLinePrerender_single]
  · simp [atLine, Display.enterBlanking]
  · exact hc
  · simp only [hc, Config.single]; omega
  · simp only [hc, Config.single]; omega

/-- Settles O40: the last of the three cases of `EndLine`. -/
theorem tickEntersBlankingLine : Obligations.TickEntersBlankingLine := by
  intro s hr hc ht hv hv'
  rw [exec_tick_one hr, State.step1_blankingLine hc ht hv hv']
  rfl

end Sys2Proof.Machine
end

section
/-! What the ticks leave alone, and the affine step (41_scanline_timing_fsm.md R413). -/

namespace Sys2Proof.Machine

variable {s t u : State} {c : Config} {f : Display → Display}

/-- The two displays have the same index and hold the same registers and external memories. -/
def SameStored (d d' : Display) : Prop :=
  d'.regs = d.regs ∧ d'.index = d.index ∧ ∀ sp, d'.memory sp = d.memory sp

theorem SameStored.refl (d : Display) : SameStored d d := ⟨rfl, rfl, fun _ => rfl⟩

theorem SameStored.trans {d' d'' : Display} (h : SameStored d d') (h' : SameStored d' d'') : SameStored d d'' := by
  obtain ⟨hr, hi, hm⟩ := h
  obtain ⟨hr', hi', hm'⟩ := h'
  exact ⟨hr'.trans hr, hi'.trans hi, fun sp => (hm' sp).trans (hm sp)⟩

theorem TickEdit.sameStored (hf : TickEdit c f) (d : Display) : SameStored d (f d) := by
  cases hf with
  | vblankEntry | affineStep => exact .refl d
  | spritePrerender l =>
    obtain ⟨buf, win, e, _⟩ := Display.spritePrerender_frame c l d
    rw [e]
    exact .refl d

theorem Display.writeRow_sameStored (d : Display) (l : Nat) (row : List Color) : SameStored d (d.writeRow l row) :=
  ⟨d.writeRow_regs l row, d.writeRow_index l row, d.memory_writeRow l row⟩

theorem TickMove.sameStored (hm : TickMove s t) (b : BitVec 1) : SameStored (s.display b) (t.display b) := by
  cases hm with
  | position | notify | refuse => exact .refl _
  | row l =>
    obtain rfl | rfl := BitVec.eq_zero_or_eq_one b
    · exact Display.writeRow_sameStored ..
    · exact .refl _
  | displays hf =>
    rw [State.display_mapDisplays]
    split_ifs
    · exact hf.sameStored _
    · exact .refl _

/-- The two machines have the same configuration, read results, count of draws and pending words. -/
def SameInterface (s t : State) : Prop :=
  t.config = s.config ∧ t.outReads = s.outReads ∧ t.draws = s.draws ∧ t.pending = s.pending

theorem SameInterface.refl (s : State) : SameInterface s s := ⟨rfl, rfl, rfl, rfl⟩

theorem SameInterface.trans (h : SameInterface s t) (h' : SameInterface t u) : SameInterface s u := by
  obtain ⟨hc, ho, hd, hp⟩ := h
  obtain ⟨hc', ho', hd', hp'⟩ := h'
  exact ⟨hc'.trans hc, ho'.trans ho, hd'.trans hd, hp'.trans hp⟩

theorem TickMove.sameInterface (hm : TickMove s t) : SameInterface s t := by
  cases hm with
  | position | notify | refuse | row => exact .refl s
  | displays => exact ⟨by simp, by simp, by simp, by simp⟩

theorem State.ticks_sameInterface (n : Nat) (s : State) : SameInterface s (State.ticks n s) :=
  State.ticks_keep_of_move (P := SameInterface s) (fun _ _ hm ht => ht.trans hm.sameInterface) n (.refl s)

theorem State.ticks_sameStored (n : Nat) (s : State) (b : BitVec 1) :
    SameStored (s.display b) ((State.ticks n s).display b) :=
  State.ticks_keep_of_move (P := fun t => SameStored (s.display b) (t.display b))
    (fun _ _ hm ht => ht.trans (hm.sameStored b)) n (.refl _)

/-- Settles O41: no elementary action of a tick changes one of these. -/
theorem tickKeepsRegistersAndMemories : Obligations.TickKeepsRegistersAndMemories := by
  intro n s t h
  obtain rfl := ticks_of_exec_tick h
  obtain ⟨hc, ho, hd, hp⟩ := State.ticks_sameInterface n.toNat s
  exact ⟨hc, ho, hd, hp, State.ticks_sameStored n.toNat s⟩

/-- Adding a sign-extended 16-bit value at 28 bits. -/
theorem toInt_add_signExtend (x : BitVec 28) (v : Half) :
    (x + v.signExtend 28).toInt = (x.toInt + v.toInt).bmod (2 ^ 28) := by
  rw [BitVec.toInt_add, BitVec.toInt_signExtend_of_le (by decide)]

/-- Settles O42: each point is one sum at 28 bits. -/
theorem affineStepWraps : Obligations.AffineStepWraps := by
  intro d n
  cases n <;> exact ⟨toInt_add_signExtend .., toInt_add_signExtend ..⟩

end Sys2Proof.Machine
end

section
/-! What one tick of a SINGLE machine at a legal position can do, said once; the invariant of the position
(41_scanline_timing_fsm.md R400), the exact phase (R415) and the notifications of a frame (R417) follow from it. -/

namespace Sys2Proof.Machine

open Sys2Proof.Claims

variable {s t : State}

/-! ### One tick -/

/-- Everything one tick of a SINGLE machine can do, at a legal position and with no refusal recorded. -/
inductive SingleTick (s : State) : State → Prop where
  /-- It only counts (R402). -/
  | inside (hd : s.lineTicks ≠ 959) (ht : s.lineTicks ≠ 1231) : SingleTick s { s with lineTicks := s.lineTicks + 1 }
  /-- The hblank entry of a visible line (R403). -/
  | hblank (ht : s.lineTicks = 959) (hv : s.vcount < 160) :
      SingleTick s { s with
        lineTicks := 960
        phase := .hblank
        outEvents := s.outEvents ++ [.dmaHblank] ++ irqIf s.disp0.regs.hblankIrqEn .irqHblank }
  /-- The hblank entry of a blanking line (R404). -/
  | vblankHblank (ht : s.lineTicks = 959) (hv : 160 ≤ s.vcount) :
      SingleTick s { s with
        lineTicks := 960
        phase := .vblankHblank
        outEvents := s.outEvents ++ irqIf s.disp0.regs.hblankIrqEn .irqHblank }
  /-- The entry into a visible line (R406). -/
  | visibleLine (ht : s.lineTicks = 1231) {l : Nat} (hl : l = (s.vcount + 1) % 228) (hv : l < 160)
      (hm : s.disp0.regs.bgMode < 6) :
      SingleTick s { atLine s l .drawing [] with disp0 := s.disp0.enterVisible l }
  /-- The entry into a visible line whose render is refused (R412). -/
  | refusedLine (ht : s.lineTicks = 1231) {l : Nat} (hl : l = (s.vcount + 1) % 228) (hv : l < 160)
      (hm : 6 ≤ s.disp0.regs.bgMode) :
      SingleTick s { atLine s l .drawing [] with refused := some .invalidBgMode }
  /-- The entry into vblank (R407). -/
  | vblankEntry (ht : s.lineTicks = 1231) (hv : s.vcount = 159) :
      SingleTick s { atLine s 160 .vblank ([.dmaVblank] ++ irqIf s.disp0.regs.vblankIrqEn .irqVblank) with
        disp0 := s.disp0.vblankEntry }
  /-- The entry into another blanking line (R408). -/
  | blankingLine (ht : s.lineTicks = 1231) (hv : 160 ≤ s.vcount) (hv' : s.vcount < 227) :
      SingleTick s { atLine s (s.vcount + 1) .vblank [] with disp0 := s.disp0.enterBlanking s.vcount }

theorem State.step1_singleTick (hr : s.refused = none) (h : PositionInv s) : SingleTick s s.step1 := by
  obtain ⟨hc, hv, _, hp⟩ := h
  by_cases hd : s.lineTicks = 959
  · rw [hd] at hp
    by_cases hvis : s.vcount < 160
    · rw [State.step1_drawing hc hd (by simpa [hvis, phaseAt] using hp)]
      exact .hblank hd hvis
    · rw [State.step1_vblank hc hd (by simpa [hvis, phaseAt] using hp)]
      exact .vblankHblank hd (Nat.not_lt.1 hvis)
  by_cases ht : s.lineTicks = 1231
  · by_cases hvis : (s.vcount + 1) % 228 < 160
    · by_cases hm : s.disp0.regs.bgMode < 6
      · rw [State.step1_validMode hr hc ht rfl hvis hm]
        exact .visibleLine ht rfl hvis hm
      · rw [State.step1_invalidMode hc ht rfl hvis (Nat.not_lt.1 hm)]
        exact .refusedLine ht rfl hvis (Nat.not_lt.1 hm)
    · by_cases h159 : s.vcount = 159
      · rw [State.step1_vblankEntry hc ht h159]
        exact .vblankEntry ht h159
      · have hge : 160 ≤ s.vcount := by omega
        have hlt : s.vcount < 227 := by omega
        rw [State.step1_blankingLine hc ht hge hlt]
        exact .blankingLine ht hge hlt
  · rw [State.step1_inside_single hc hd ht]
    exact .inside hd ht

/-- A property that the ticks keep as long as no refusal is recorded is kept by any number of ticks. -/
theorem State.ticks_keep_of_unmarked {P : State → Prop} (hstep : ∀ s, s.refused = none → P s → P s.step1)
    (n : Nat) (h : P s) : P (State.ticks n s) := by
  induction n generalizing s with
  | zero => exact h
  | succ n ih =>
    by_cases hr : s.refused = none
    · rw [State.ticks_succ n hr]
      exact ih (hstep s hr h)
    · rwa [State.ticks_marked _ hr]

/-! ### The position -/

theorem SingleTick.positionInv (ht : SingleTick s t) (h : PositionInv s) : PositionInv t := by
  obtain ⟨hc, hv, hl, hp⟩ := h
  cases ht with
  | inside hd ht =>
    have hiff : 960 ≤ s.lineTicks + 1 ↔ 960 ≤ s.lineTicks := by omega
    exact ⟨hc, hv, (by omega : s.lineTicks + 1 < 1232), by simp [hiff, hp]⟩
  | hblank _ hvis => exact ⟨hc, hv, (by decide : 960 < 1232), by simp [hvis, phaseAt]⟩
  | vblankHblank _ hvis => exact ⟨hc, hv, (by decide : 960 < 1232), by simp [Nat.not_lt.2 hvis, phaseAt]⟩
  | @visibleLine _ l _ hvis | @refusedLine _ l _ hvis =>
    exact ⟨hc, (by omega : l < 228), (by decide : 0 < 1232), by simp [atLine, hvis, phaseAt]⟩
  | vblankEntry => exact ⟨hc, (by decide : 160 < 228), (by decide : 0 < 1232), rfl⟩
  | blankingLine _ hge hlt =>
    have hblank : ¬ s.vcount + 1 < 160 := by omega
    exact ⟨hc, (by omega : s.vcount + 1 < 228), (by decide : 0 < 1232), by simp [atLine, hblank, phaseAt]⟩

theorem State.ticks_positionInv (n : Nat) (h : PositionInv s) : PositionInv (State.ticks n s) :=
  State.ticks_keep_of_unmarked (fun _ hr h => (State.step1_singleTick hr h).positionInv h) n h

theorem Effect.positionInv {i : Instr} (he : Effect i s t) (h : PositionInv s) : PositionInv t := by
  cases he with
  | same | reads | refuse => exact h
  | edit => simpa [PositionInv] using h
  | ticks n => exact State.ticks_positionInv n.toNat h

/-- Settles O29: of the effects of a transaction only ticks move the position, and each of them keeps it legal. -/
theorem positionStaysLegal : Obligations.PositionStaysLegal := by
  intro s t hs h
  obtain ⟨_, rfl⟩ | ⟨i, w, rest, _, he⟩ := step_cases h
  · exact hs
  · exact he.positionInv hs

/-! ### Counting along a frame -/

/-- A tick moves the position one tick further in the frame of 280896 (R415). -/
theorem SingleTick.frameTick_eq (ht : SingleTick s t) (h : PositionInv s) :
    frameTick t = (frameTick s + 1) % 280896 := by
  obtain ⟨_, hv, hl, _⟩ := h
  cases ht <;> simp only [frameTick, atLine] <;> omega

/-- Every tick of a machine whose display 0 holds the registers `r` adds one to `f` if `p` holds before it, else
nothing. -/
def Counts (r : Regs) (f : State → Nat) (p : State → Bool) : Prop :=
  ∀ s t, SingleTick s t → s.disp0.regs = r → f t = f s + if p s then 1 else 0

/-- Of the ticks of a frame, numbered by their position, `p` holds before as many as `g` grows by, in every frame
alike. -/
structure FallsBy (p : State → Bool) (g : Nat → Nat) : Prop where
  succ : ∀ {s}, PositionInv s → g (frameTick s + 1) = g (frameTick s) + if p s then 1 else 0
  frame : ∀ x, g (x + 280896) + g 0 = g x + g 280896

theorem State.step1_regs (hr : s.refused = none) : s.step1.disp0.regs = s.disp0.regs := by
  obtain ⟨hregs, _⟩ := State.ticks_sameStored 1 s 0
  rwa [State.ticks_succ 0 hr] at hregs

theorem State.unmarked_of_ticks {n : Nat} (h : (State.ticks n s).refused = none) : s.refused = none := by
  by_contra hr
  exact hr (State.ticks_marked n hr ▸ h)

theorem frameTick_lt (h : PositionInv s) : frameTick s < 280896 := by
  obtain ⟨_, hv, hl, _⟩ := h
  unfold frameTick
  omega

/-- Where a run of ticks that records no refusal ends, and what it counts. -/
theorem Counts.ticks {r : Regs} {f : State → Nat} {p : State → Bool} {g : Nat → Nat} (hf : Counts r f p)
    (hg : FallsBy p g) (n : Nat) (h : PositionInv s) (hregs : s.disp0.regs = r)
    (hn : (State.ticks n s).refused = none) :
    frameTick (State.ticks n s) = (frameTick s + n) % 280896 ∧
      f (State.ticks n s) + g (frameTick s) = f s + g (frameTick s + n) := by
  induction n generalizing s with
  | zero => simp [Nat.mod_eq_of_lt (frameTick_lt h)]
  | succ n ih =>
    have hr := State.unmarked_of_ticks hn
    rw [State.ticks_succ n hr] at hn ⊢
    have hone := State.step1_singleTick hr h
    have hcount := hf _ _ hone hregs
    have hsucc := hg.succ h
    obtain ⟨hpos, hcounts⟩ := ih (hone.positionInv h) ((State.step1_regs hr).trans hregs) hn
    have hlt := frameTick_lt h
    rw [hone.frameTick_eq h] at hpos hcounts
    refine ⟨by omega, ?_⟩
    by_cases hend : frameTick s + 1 = 280896
    · have hframe := hg.frame n
      simp only [hend, Nat.mod_self, Nat.zero_add] at hcounts hsucc
      rw [show frameTick s + (n + 1) = n + 280896 by omega]
      omega
    · rw [Nat.mod_eq_of_lt (by omega)] at hcounts
      rw [show frameTick s + (n + 1) = frameTick s + 1 + n by omega]
      omega

/-! ### What falls within the first ticks of a frame -/

/-- The hblank entries by tick `x` of the first frame on. -/
def hblanksBy (x : Nat) : Nat := (x + 272) / 1232

/-- The hblank entries of visible lines by tick `x` of the first frame on. -/
def visibleHblanksBy (x : Nat) : Nat := 160 * (x / 280896) + min 160 (hblanksBy (x % 280896))

/-- The entries into line `l` by tick `x` of the first frame on, for line 0 with the start of that frame. -/
def lineEntriesBy (l x : Nat) : Nat := (x + (228 - l) * 1232) / 280896

/-- The next tick enters hblank. -/
def entersHblank (s : State) : Bool := decide (s.lineTicks = 959)

/-- The next tick enters the hblank of a visible line. -/
def entersVisibleHblank (s : State) : Bool := decide (s.lineTicks = 959 ∧ s.vcount < 160)

/-- The next tick enters line `l`. -/
def entersLine (l : Nat) (s : State) : Bool := decide (s.lineTicks = 1231 ∧ (s.vcount + 1) % 228 = l)

theorem hblanks_fallBy : FallsBy entersHblank hblanksBy where
  succ {s} h := by
    obtain ⟨_, _, hl, _⟩ := h
    simp only [hblanksBy, frameTick, entersHblank, decide_eq_true_eq]
    split_ifs <;> omega
  frame x := by unfold hblanksBy; omega

theorem visibleHblanks_fallBy : FallsBy entersVisibleHblank visibleHblanksBy where
  succ {s} h := by
    obtain ⟨_, hv, hl, _⟩ := h
    simp only [visibleHblanksBy, hblanksBy, frameTick, entersVisibleHblank, decide_eq_true_eq]
    split_ifs <;> omega
  frame x := by unfold visibleHblanksBy hblanksBy; omega

theorem lineEntries_fallBy {l : Nat} (hl : l < 228) : FallsBy (entersLine l) (lineEntriesBy l) where
  succ {s} h := by
    obtain ⟨_, hv, ht, _⟩ := h
    simp only [lineEntriesBy, frameTick, entersLine, decide_eq_true_eq]
    split_ifs <;> omega
  frame x := by unfold lineEntriesBy; omega

/-! ### What one tick counts -/

@[simp] theorem Display.spritePrerender_frameCount (c : Config) (l : Nat) (d : Display) :
    (Display.spritePrerender c l d).frameCount = d.frameCount := by
  obtain ⟨buf, win, e, _⟩ := Display.spritePrerender_frame c l d
  rw [e]

@[simp] theorem Display.enterVisible_frameCount (d : Display) (l : Nat) :
    (d.enterVisible l).frameCount = d.frameCount := by
  unfold Display.enterVisible
  dsimp only
  split_ifs <;> simp

@[simp] theorem Display.enterBlanking_frameCount (d : Display) (v : Nat) :
    (d.enterBlanking v).frameCount = d.frameCount := by
  unfold Display.enterBlanking
  split_ifs <;> simp

theorem SingleTick.frameCount_eq (ht : SingleTick s t) :
    t.disp0.frameCount = s.disp0.frameCount + if entersLine 160 s then 1 else 0 := by
  cases ht with
  | inside _ ht => simp [entersLine, ht]
  | hblank ht | vblankHblank ht => simp [entersLine, ht]
  | visibleLine _ hl hv => simp [entersLine, ← hl, hv.ne]
  | refusedLine _ hl hv => simp [entersLine, ← hl, hv.ne, atLine]
  | vblankEntry ht hv => simp [entersLine, ht, hv]
  | blankingLine _ hv hv' =>
    have hne : (s.vcount + 1) % 228 ≠ 160 := by omega
    simp [entersLine, hne]

/-- The notifications of the next tick (R403, R404, R407, R410), in this order (R411). -/
def tickEvents (s : State) : List Event :=
  irqIf (entersVisibleHblank s) .dmaHblank ++ irqIf (entersHblank s && s.disp0.regs.hblankIrqEn) .irqHblank ++
    irqIf (entersLine 160 s) .dmaVblank ++ irqIf (entersLine 160 s && s.disp0.regs.vblankIrqEn) .irqVblank ++
    irqIf (entersLine s.disp0.regs.lyc s && s.disp0.regs.vcountIrqEn) .irqVcount

@[simp] theorem irqIf_true (e : Event) : irqIf true e = [e] := rfl

@[simp] theorem irqIf_false (e : Event) : irqIf false e = [] := rfl

theorem SingleTick.outEvents_eq (ht : SingleTick s t) : t.outEvents = s.outEvents ++ tickEvents s := by
  cases ht with
  | inside hd ht => simp [tickEvents, entersVisibleHblank, entersHblank, entersLine, hd, ht]
  | hblank ht hv => simp [tickEvents, entersVisibleHblank, entersHblank, entersLine, ht, hv]
  | vblankHblank ht hv => simp [tickEvents, entersVisibleHblank, entersHblank, entersLine, ht, Nat.not_lt.2 hv]
  | visibleLine ht hl hv | refusedLine ht hl hv =>
    simp [tickEvents, entersVisibleHblank, entersHblank, entersLine, ht, ← hl, hv.ne, atLine]
  | vblankEntry ht hv => simp [tickEvents, entersVisibleHblank, entersHblank, entersLine, ht, hv, atLine]
  | blankingLine ht hv hv' =>
    have hmod : (s.vcount + 1) % 228 = s.vcount + 1 := Nat.mod_eq_of_lt (by omega)
    have hne : s.vcount ≠ 159 := by omega
    simp [tickEvents, entersVisibleHblank, entersHblank, entersLine, ht, hmod, hne, atLine]

theorem count_irqIf (b : Bool) (e e' : Event) : (irqIf b e).count e' = if e = e' then (if b then 1 else 0) else 0 := by
  cases b <;> simp [List.count_singleton]

/-! ### The exact phase -/

theorem vblanksBy_eq : vblanksBy = lineEntriesBy 160 := rfl

/-- Settles O43: the frame counter counts the entries into line 160. -/
theorem exactPhase : Obligations.ExactPhase := by
  intro n s t hs h ht
  obtain rfl := ticks_of_exec_tick h
  rw [vblanksBy_eq]
  exact Counts.ticks (fun _ _ ht _ => ht.frameCount_eq) (lineEntries_fallBy (by decide)) n.toNat hs rfl ht

/-! ### The notifications of a frame -/

theorem SingleTick.refused_eq (ht : SingleTick s t) (hm : s.disp0.regs.bgMode < 6) : t.refused = s.refused := by
  cases ht with
  | refusedLine _ _ _ hm' => omega
  | inside | hblank | vblankHblank | visibleLine | vblankEntry | blankingLine => rfl

/-- A machine at a legal position whose ticks are not refused: no refusal is recorded and every render runs (R412). -/
def Renders (s : State) : Prop := s.refused = none ∧ PositionInv s ∧ s.disp0.regs.bgMode < 6

theorem Renders.step1 (h : Renders s) : Renders s.step1 := by
  obtain ⟨hr, hs, hm⟩ := h
  have ht := State.step1_singleTick hr hs
  exact ⟨(ht.refused_eq hm).trans hr, ht.positionInv hs, State.step1_regs hr ▸ hm⟩

theorem Renders.ticks (n : Nat) (h : Renders s) : Renders (State.ticks n s) :=
  State.ticks_keep (P := Renders) (fun _ => Renders.step1) n h

theorem SingleTick.count_eq (ht : SingleTick s t) (e : Event) :
    t.outEvents.count e = s.outEvents.count e + (tickEvents s).count e := by
  rw [ht.outEvents_eq, List.count_append]

theorem irqHblank_counts {r : Regs} (hen : r.hblankIrqEn = true) :
    Counts r (fun s => s.outEvents.count .irqHblank) entersHblank := by
  rintro s t ht rfl
  simp [ht.count_eq, tickEvents, count_irqIf, hen]

theorem dmaHblank_counts (r : Regs) : Counts r (fun s => s.outEvents.count .dmaHblank) entersVisibleHblank := by
  rintro s t ht -
  simp [ht.count_eq, tickEvents, count_irqIf]

theorem dmaVblank_counts (r : Regs) : Counts r (fun s => s.outEvents.count .dmaVblank) (entersLine 160) := by
  rintro s t ht -
  simp [ht.count_eq, tickEvents, count_irqIf]

theorem irqVblank_counts {r : Regs} (hen : r.vblankIrqEn = true) :
    Counts r (fun s => s.outEvents.count .irqVblank) (entersLine 160) := by
  rintro s t ht rfl
  simp [ht.count_eq, tickEvents, count_irqIf, hen]

theorem irqVcount_counts {r : Regs} (hen : r.vcountIrqEn = true) :
    Counts r (fun s => s.outEvents.count .irqVcount) (entersLine r.lyc) := by
  rintro s t ht rfl
  simp [ht.count_eq, tickEvents, count_irqIf, hen]

/-- What a whole frame from its start appends of a notification. -/
theorem Counts.frame {e : Event} {p : State → Bool} {g : Nat → Nat} {l : List Event}
    (hf : Counts s.disp0.regs (fun s => s.outEvents.count e) p) (hg : FallsBy p g) (h : PositionInv s)
    (hstart : frameTick s = 0) (hn : (State.ticks 280896 s).refused = none)
    (hl : (State.ticks 280896 s).outEvents = s.outEvents ++ l) : l.count e + g 0 = g 280896 := by
  obtain ⟨_, hcount⟩ := hf.ticks hg 280896 h rfl hn
  simp only [hstart, hl, List.count_append, Nat.zero_add] at hcount
  omega

theorem lineEntriesBy_frame (l : Nat) : lineEntriesBy l 280896 = 1 + lineEntriesBy l 0 := by
  unfold lineEntriesBy
  omega

theorem Counts.frame_lineEntries {e : Event} {v : Nat} {l : List Event}
    (hf : Counts s.disp0.regs (fun s => s.outEvents.count e) (entersLine v)) (hv : v < 228) (h : PositionInv s)
    (hstart : frameTick s = 0) (hn : (State.ticks 280896 s).refused = none)
    (hl : (State.ticks 280896 s).outEvents = s.outEvents ++ l) : l.count e = 1 :=
  Nat.add_right_cancel ((hf.frame (lineEntries_fallBy hv) h hstart hn hl).trans (lineEntriesBy_frame v))

/-- Settles O44: a frame holds 228 hblank entries, 160 of them on visible lines, and one entry into each line. -/
theorem frameNotificationCounts : Obligations.FrameNotificationCounts := by
  intro s t hs hr hstart hm hv hh hc hlyc h
  obtain ⟨⟨l, hl⟩, _⟩ := (effect_of_exec h).extends
  obtain rfl := ticks_of_exec_tick h
  obtain ⟨hn, _⟩ := Renders.ticks 280896 ⟨hr, hs, hm⟩
  exact ⟨l, hl, (irqHblank_counts hh).frame hblanks_fallBy hs hstart hn hl,
    (dmaHblank_counts _).frame visibleHblanks_fallBy hs hstart hn hl,
    (dmaVblank_counts _).frame_lineEntries (by decide) hs hstart hn hl,
    (irqVblank_counts hv).frame_lineEntries (by decide) hs hstart hn hl,
    (irqVcount_counts hc).frame_lineEntries hlyc hs hstart hn hl⟩

end Sys2Proof.Machine
end

section
/-! The text renderer: what a flip bit of a map entry changes (42_tiled_layer_renderer.md R455). -/

namespace Sys2Proof.Machine

/-- Toggling a flip bit is the same as mirroring the layer coordinate inside its tile. -/
theorem flip8_not_mod (f : Bool) (p : Nat) :
    flip8 (!f) (p % 8) = flip8 f ((p - p % 8 + (7 - p % 8)) % 8) := by
  have hmirror : (p - p % 8 + (7 - p % 8)) % 8 = 7 - p % 8 := by omega
  rw [hmirror]
  cases f
  · rfl
  · change p % 8 = 7 - (7 - p % 8)
    omega

/-- A tile shows a layer pixel by four things only: the tile number, the palette and the two coordinates inside the
tile. -/
theorem Display.tileTexel_congr (c : Config) (d : Display) (cnt : Half) {entry entry' : Half} {tx ty tx' ty' : Nat}
    (htile : field entry' 0 10 = field entry 0 10) (hpal : entry'.extractLsb' 12 4 = entry.extractLsb' 12 4)
    (hx : flip8 (entry'.getLsbD 10) (tx' % 8) = flip8 (entry.getLsbD 10) (tx % 8))
    (hy : flip8 (entry'.getLsbD 11) (ty' % 8) = flip8 (entry.getLsbD 11) (ty % 8)) :
    Display.tileTexel c d cnt entry' tx' ty' = Display.tileTexel c d cnt entry tx ty := by
  unfold Display.tileTexel
  rw [htile, hpal, hx, hy]

/-- Settles O46: the toggled bit mirrors its own coordinate and leaves tile, palette and the other one alone. -/
theorem tileFlipMirrors : Obligations.TileFlipMirrors := by
  intro c d cnt entry tx ty
  constructor
  · apply Display.tileTexel_congr
    case hx => simpa using flip8_not_mod (entry.getLsbD 10) tx
    all_goals simp [field, BitVec.extractLsb'_xor]
  · apply Display.tileTexel_congr
    case hy => simpa using flip8_not_mod (entry.getLsbD 11) ty
    all_goals simp [field, BitVec.extractLsb'_xor]

end Sys2Proof.Machine
end

section
/-! The regions of VRAM that the renderers read: background maps and tiles (42_tiled_layer_renderer.md R458), bitmap
pages (44_bitmap_layer_renderer.md R546) and sprite tiles (45_sprite_renderer.md R592). -/

namespace Sys2Proof.Machine

theorem Regs.bitmapPage_le (r : Regs) : r.bitmapPage ≤ 0xA000 := by
  unfold Regs.bitmapPage
  split_ifs <;> decide

end Sys2Proof.Machine

namespace Sys2Proof.Claims

open Sys2Proof.Machine

variable {d d' : Display} {inside : Nat → Prop}

/-! ### What two displays of the same video state agree on -/

theorem SameVideo.regs_eq (h : SameVideo d d' inside) : d.regs = d'.regs := by
  obtain ⟨hregs, -⟩ := h
  exact hregs

theorem SameVideo.readByte_eq (h : SameVideo d d' inside) {a : Nat} (ha : inside a) :
    d.readByte .vram a = d'.readByte .vram a := by
  obtain ⟨-, -, -, -, -, hvram⟩ := h
  exact hvram a ha

theorem SameVideo.readHalf_eq (h : SameVideo d d' inside) {a : Nat} (hlo : inside a) (hhi : inside (a + 1)) :
    d.readHalf .vram a = d'.readHalf .vram a := by
  rw [Display.readHalf, Display.readHalf, h.readByte_eq hlo, h.readByte_eq hhi]

theorem SameVideo.xInt_eq (h : SameVideo d d' inside) (n : AffineBg) : d.xInt n = d'.xInt n := by
  obtain ⟨-, hx2, -, hx3, -⟩ := h
  cases n
  · exact congrArg BitVec.toInt hx2
  · exact congrArg BitVec.toInt hx3

theorem SameVideo.yInt_eq (h : SameVideo d d' inside) (n : AffineBg) : d.yInt n = d'.yInt n := by
  obtain ⟨-, -, hy2, -, hy3, -⟩ := h
  cases n
  · exact congrArg BitVec.toInt hy2
  · exact congrArg BitVec.toInt hy3

/-- The sample points of an affine layer come from registers and internal points alone. -/
theorem SameVideo.affinePoint_eq (h : SameVideo d d' inside) (n : AffineBg) (l x : Nat) :
    d.affinePoint n l x = d'.affinePoint n l x := by
  simp only [Display.affinePoint, Display.affineStart, h.regs_eq, h.xInt_eq, h.yInt_eq]

/-! ### Background maps and tiles -/

/-- R458: the limit of `BgRead8` hides every byte at or above it. -/
theorem SameVideo.bgRead8_eq (h : SameVideo d d' (fun a => a < 0x10000)) :
    Display.bgRead8 Config.single d = Display.bgRead8 Config.single d' := by
  funext a
  simp only [Display.bgRead8]
  split_ifs with ha
  · exact h.readByte_eq ha
  · rfl

theorem SameVideo.bgRead16_eq (h : SameVideo d d' (fun a => a < 0x10000)) :
    Display.bgRead16 Config.single d = Display.bgRead16 Config.single d' := by
  unfold Display.bgRead16
  rw [h.bgRead8_eq]

theorem SameVideo.tileTexel_eq (h : SameVideo d d' (fun a => a < 0x10000)) :
    Display.tileTexel Config.single d = Display.tileTexel Config.single d' := by
  unfold Display.tileTexel
  rw [h.bgRead8_eq]

theorem SameVideo.textTexel_eq (h : SameVideo d d' (fun a => a < 0x10000)) (n : Bg) (l x : Nat) :
    Display.textTexel Config.single d n l x = Display.textTexel Config.single d' n l x := by
  simp only [Display.textTexel, h.regs_eq, h.bgRead16_eq, h.tileTexel_eq]

theorem SameVideo.affineTexel_eq (h : SameVideo d d' (fun a => a < 0x10000)) (n : AffineBg) (l x : Nat) :
    Display.affineTexel Config.single d n l x = Display.affineTexel Config.single d' n l x := by
  simp only [Display.affineTexel, Display.affineFetch, h.affinePoint_eq, h.bgRead8_eq, h.regs_eq]

/-! ### Bitmap pages -/

/-- R543-R546: either page of every format ends below 0x14000. -/
theorem SameVideo.bitmapFetch_eq (h : SameVideo d d' (fun a => a < 0x14000)) (m : BitmapMode) {tx ty : Nat}
    (hx : tx < m.width) (hy : ty < m.height) : d.bitmapFetch m tx ty = d'.bitmapFetch m tx ty := by
  have hpage := d'.regs.bitmapPage_le
  cases m <;> dsimp only [BitmapMode.width, BitmapMode.height, Display.bitmapFetch] at hx hy ⊢
  case mode3 => rw [h.readHalf_eq (by omega) (by omega)]
  case mode4 => rw [h.regs_eq, h.readByte_eq (by omega)]
  case mode5 => rw [h.regs_eq, h.readHalf_eq (by omega) (by omega)]

theorem SameVideo.bitmapTexel_eq (h : SameVideo d d' (fun a => a < 0x14000)) (m : BitmapMode) (l x : Nat) :
    d.bitmapTexel m l x = d'.bitmapTexel m l x := by
  simp only [Display.bitmapTexel, h.affinePoint_eq]
  split_ifs with hclip
  · rfl
  · exact h.bitmapFetch_eq m (by omega) (by omega)

/-! ### Sprite tiles -/

/-- R592: the offset of a texel byte wraps inside the 32 KiB from 0x10000 on. -/
theorem SameVideo.objTexel_eq (h : SameVideo d d' (fun a => 0x10000 ≤ a ∧ a < 0x18000)) (a : ObjAttr) (sx sy : Nat) :
    Display.objTexel Config.single d a sx sy = Display.objTexel Config.single d' a sx sy := by
  have hbyte (off : Nat) : d.readByte .vram (Config.single.objVramBase + off % 0x8000) =
      d'.readByte .vram (Config.single.objVramBase + off % 0x8000) :=
    h.readByte_eq (by simp only [Config.single]; omega)
  simp only [Display.objTexel, h.regs_eq, hbyte]

end Sys2Proof.Claims

namespace Sys2Proof.Machine

open Sys2Proof.Claims

/-- Settles O47: each fetch stays below its limit or inside its window, and all else comes from the registers. -/
theorem fetchesStayInTheirRegion : Obligations.FetchesStayInTheirRegion := fun _ _ =>
  ⟨fun h l x => ⟨fun n => h.textTexel_eq n l x, fun n => h.affineTexel_eq n l x⟩, SameVideo.bitmapTexel_eq,
    SameVideo.objTexel_eq⟩

end Sys2Proof.Machine
end

section
/-! The affine renderer: the two forms of the sample point of a column (43_affine_layer_renderer.md R503). -/

namespace Sys2Proof.Machine

/-- Without mosaic every column is its own block (R451). -/
theorem Regs.mosaicX_of_not_mosaic (r : Regs) {cnt : Half} (h : bgMosaic cnt = false) (x : Nat) :
    r.mosaicX cnt x = x := by
  simp [Regs.mosaicX, h]

theorem Display.affinePoint_of_not_mosaic (d : Display) {n : AffineBg} (h : bgMosaic (d.regs.affineCnt n) = false)
    (l x : Nat) :
    d.affinePoint n l x =
      (((d.affineStart n l).1 + x * d.regs.pa n) / 256, ((d.affineStart n l).2 + x * d.regs.pc n) / 256) := by
  rw [Display.affinePoint, Regs.mosaicX_of_not_mosaic _ h]

/-- `x` steps of one column each move a point by `x` times the column's step. -/
theorem iterate_columnStep (a c : Int) (x : Nat) (p : Int × Int) :
    (fun q : Int × Int => (q.1 + a, q.2 + c))^[x] p = (p.1 + x * a, p.2 + x * c) := by
  induction x with
  | zero => simp
  | succ x ih =>
    rw [Function.iterate_succ_apply', ih]
    ext <;> push_cast <;> ring

/-- Settles O48: the repeated addition is R503's product, by induction on the column. -/
theorem affineColumnsAccumulate : Obligations.AffineColumnsAccumulate := by
  intro d n l x hmosaic
  dsimp only
  rw [iterate_columnStep, d.affinePoint_of_not_mosaic hmosaic]

end Sys2Proof.Machine
end

section
/-! The bitmap renderer under the identity matrix (44_bitmap_layer_renderer.md R541, R542). -/

namespace Sys2Proof.Machine

/-- R502's correction is for vertical mosaic only. -/
theorem Display.affineStart_of_not_mosaic (d : Display) {n : AffineBg} (h : bgMosaic (d.regs.affineCnt n) = false)
    (l : Nat) : d.affineStart n l = (d.xInt n, d.yInt n) := by
  simp [Display.affineStart, h]

/-- R503 with `PA` one pixel and `PC` 0: every column moves the sample point one pixel to the right. -/
theorem Display.affinePoint_of_unit_step (d : Display) {n : AffineBg} (h : bgMosaic (d.regs.affineCnt n) = false)
    (hpa : d.regs.pa n = 256) (hpc : d.regs.pc n = 0) (l x : Nat) :
    d.affinePoint n l x = (d.xInt n / 256 + x, d.yInt n / 256) := by
  rw [d.affinePoint_of_not_mosaic h, d.affineStart_of_not_mosaic h, hpa, hpc, mul_zero, add_zero,
    Int.add_mul_ediv_right _ _ (by decide)]

/-- R542: a sample point inside the bitmap is not clipped. -/
theorem Display.bitmapTexel_of_inside (d : Display) {m : BitmapMode} {l x tx ty : Nat}
    (hpoint : d.affinePoint .bg2 l x = ((tx : Int), (ty : Int))) (hx : tx < m.width) (hy : ty < m.height) :
    d.bitmapTexel m l x = d.bitmapFetch m tx ty := by
  have hinside : ¬ ((tx : Int) < 0 ∨ (m.width : Int) ≤ tx ∨ (ty : Int) < 0 ∨ (m.height : Int) ≤ ty) := by omega
  simp only [Display.bitmapTexel, hpoint]
  rw [if_neg hinside, Int.toNat_natCast, Int.toNat_natCast]

/-- Settles O49: the sample point of column `x` is `(x, l)` itself, which lies inside the bitmap. -/
theorem identityBitmapIsDirect : Obligations.IdentityBitmapIsDirect := by
  intro d m l x hbg2pa hbg2pc hbg2cnt hbg2xInt hbg2yInt hx hy
  have hmosaic : bgMosaic (d.regs.affineCnt .bg2) = false := hbg2cnt
  have hpa : d.regs.pa .bg2 = 256 := congrArg BitVec.toInt hbg2pa
  have hpc : d.regs.pc .bg2 = 0 := congrArg BitVec.toInt hbg2pc
  have hxInt : d.xInt .bg2 = 0 := congrArg BitVec.toInt hbg2xInt
  have hyInt : d.yInt .bg2 = 256 * l := hbg2yInt
  have hpoint : d.affinePoint .bg2 l x = ((x : Int), (l : Int)) := by
    rw [d.affinePoint_of_unit_step hmosaic hpa hpc, hxInt, hyInt, Int.zero_ediv, zero_add,
      Int.mul_ediv_cancel_left _ (by decide)]
  exact d.bitmapTexel_of_inside hpoint hx hy

end Sys2Proof.Machine
end

section
/-! The sprite renderer: the gate of the pre-render (45_sprite_renderer.md R581-R583) and the sample points of one sprite
(R588-R590). -/

namespace Sys2Proof.Machine

/-- R582: nothing follows the clear. -/
theorem Display.spritePrerender_of_disabled (c : Config) (t : Nat) {d : Display} (h : d.regs.objEn = false) :
    Display.spritePrerender c t d = Display.clearObj c d t := by
  simp [Display.spritePrerender, h]

/-- R583: the entries follow the clear in table order. -/
theorem Display.spritePrerender_of_enabled (c : Config) (t : Nat) {d : Display} (h : d.regs.objEn = true) :
    Display.spritePrerender c t d = (List.range 128).foldl (Display.drawObj c t) (Display.clearObj c d t) := by
  simp [Display.spritePrerender, h, Config.numObj]

/-- Settles O50: the clear writes the two line buffers and their line, nothing else. -/
theorem spriteGate : Obligations.SpriteGate := fun c t _ h => Display.spritePrerender_of_disabled c t h

/-- R588: mosaic only moves a coordinate back. -/
theorem ObjAttr.hold_le (a : ObjAttr) (p screen block : Nat) : a.hold p screen block ≤ p := by
  unfold ObjAttr.hold
  split_ifs
  · exact Nat.sub_le ..
  · exact le_rfl

theorem ObjAttr.box_of_regular {a : ObjAttr} (h : a.affine = false) : a.box = objSize a.shape a.size := by
  simp [ObjAttr.box, h]

/-- R588: a flip keeps a coordinate inside the sprite. -/
theorem flipped_lt {p w : Nat} (f : Bool) (h : p < w) : (if f then w - 1 - p else p) < w := by
  split_ifs <;> omega

/-- R589: what the skip test of an affine sample lets through lies inside the sprite. -/
theorem Display.objSample_lt_of_affine {d : Display} {a : ObjAttr} {t dx sx sy : Nat} (ha : a.affine = true)
    (h : d.objSample a t dx = some (sx, sy)) :
    sx < (objSize a.shape a.size).1 ∧ sy < (objSize a.shape a.size).2 := by
  simp only [Display.objSample, ha, if_true] at h
  split_ifs at h with hskip
  obtain ⟨rfl, rfl⟩ : _ ∧ _ := by simpa using h
  omega

/-- R588: the box of a regular sprite is the sprite, and neither mosaic nor a flip leaves it. -/
theorem Display.objSample_lt_of_regular {d : Display} {a : ObjAttr} {t dx sx sy : Nat} (ha : a.affine = false)
    (hline : a.covers t = true) (hdx : dx < a.box.1) (h : d.objSample a t dx = some (sx, sy)) :
    sx < (objSize a.shape a.size).1 ∧ sy < (objSize a.shape a.size).2 := by
  have hdy : a.dy t < a.box.2 := of_decide_eq_true hline
  rw [ObjAttr.box_of_regular ha] at hdx hdy
  simp only [Display.objSample, ha, Bool.false_eq_true, if_false, Option.some.injEq, Prod.mk.injEq] at h
  obtain ⟨rfl, rfl⟩ := h
  exact ⟨flipped_lt _ ((a.hold_le ..).trans_lt hdx), flipped_lt _ ((a.hold_le ..).trans_lt hdy)⟩

/-- Settles O53: an affine sample is tested, a regular one never leaves the box. -/
theorem spriteSamplesInside : Obligations.SpriteSamplesInside := by
  intro d a t dx sx sy hline hdx h
  cases ha : a.affine
  case true => exact Display.objSample_lt_of_affine ha h
  case false => exact Display.objSample_lt_of_regular ha hline hdx h

end Sys2Proof.Machine
end

section
/-! The sprite renderer seen from one screen column: what each entry of the attribute table does to the column's pixel
and window hit (45_sprite_renderer.md R583, R587, R593, R594). The column an entry is asked for lies in one place of its
box only, so the loop over the box is one step for the column, and the pre-render is a fold of 128 such steps. -/

namespace Sys2Proof.Machine

open Sys2Proof.Claims

variable {d d' : Display} {a : ObjAttr} {t col : Nat}

/-! ### What a pre-render reads stays as it is while it runs -/

theorem Display.SameButObj.objAttr_eq (h : d.SameButObj d') (i : Nat) : d'.objAttr i = d.objAttr i := by
  obtain ⟨_, _, rfl, _⟩ := h
  rfl

theorem Display.SameButObj.regs_eq (h : d.SameButObj d') : d'.regs = d.regs := by
  obtain ⟨_, _, rfl, _⟩ := h
  rfl

theorem Display.SameButObj.objColumn_eq (h : d.SameButObj d') (c : Config) :
    Display.objColumn c d' = Display.objColumn c d := by
  obtain ⟨_, _, rfl, _⟩ := h
  rfl

theorem Display.SameButObj.pal15_eq (h : d.SameButObj d') : d'.pal15 = d.pal15 := by
  obtain ⟨_, _, rfl, _⟩ := h
  rfl

/-! ### One column of the line buffers -/

/-- The content of one column: its sprite pixel, if any, and its object-window hit. -/
abbrev ObjCell := Option ObjPixel × Bool

/-- The content of column `col`. -/
def Display.objCell (d : Display) (col : Nat) : ObjCell := (d.objPixelAt col, d.objWin.getD col false)

/-- Both line buffers reach beyond column `col`. -/
def Display.HasColumn (d : Display) (col : Nat) : Prop := col < d.objBuf.length ∧ col < d.objWin.length

theorem Display.SameButObj.hasColumn (h : d.SameButObj d') (hcol : d.HasColumn col) : d'.HasColumn col := by
  obtain ⟨_, _, rfl, hbuf, hwin⟩ := h
  obtain ⟨hb, hw⟩ := hcol
  exact ⟨hb.trans_eq hbuf.symm, hw.trans_eq hwin.symm⟩

theorem Display.clearObj_hasColumn (d : Display) (t : Nat) (hcol : col < 240) :
    (Display.clearObj Config.single d t).HasColumn col := by
  rw [Display.HasColumn, Display.clearObj_objBuf, Display.clearObj_objWin, List.length_replicate, List.length_replicate]
  exact ⟨hcol, hcol⟩

theorem Display.clearObj_objCell (c : Config) (d : Display) (t col : Nat) :
    (Display.clearObj c d t).objCell col = (none, false) := by
  simp only [Display.objCell, Display.objPixelAt, Display.clearObj_objBuf, Display.clearObj_objWin,
    List.getD_eq_getElem?_getD, List.getElem?_getD_replicate_default_eq]

/-- The pixel an entry draws for a palette index. -/
def Display.objPixelOf (d : Display) (a : ObjAttr) (p : BitVec 9) : ObjPixel :=
  { palidx := p, color := d.pal15 p.toNat, prio := a.priority, translucent := decide (a.mode = 1) }

/-- R594: a column's pixel after a further pixel is offered. -/
def mergePixel (current offered : Option ObjPixel) : Option ObjPixel :=
  match offered with
  | none => current
  | some p => if objBeats p.prio current then some p else current

/-- R593, R594: a column after an opaque texel of entry `a` there. -/
def Display.plotCell (d : Display) (a : ObjAttr) (p : BitVec 9) (q : ObjCell) : ObjCell :=
  if a.mode = 2 then (q.1, true) else (mergePixel q.1 (some (d.objPixelOf a p)), q.2)

/-- R592: a column after column `dx` of the entry's box came to lie on it. -/
def Display.columnCell (d : Display) (a : ObjAttr) (t dx : Nat) (q : ObjCell) : ObjCell :=
  match Display.objColumn Config.single d a t dx with
  | none => q
  | some p => d.plotCell a p q

/-- R583, R587: column `col` after entry `i` of the table. -/
def Display.entryCell (d : Display) (t col : Nat) (q : ObjCell) (i : Nat) : ObjCell :=
  let a := d.objAttr i
  let dx := (col + 512 - a.x) % 512
  if a.suppressed d.regs.bgMode = false ∧ a.covers t = true ∧ dx < a.box.1 then d.columnCell a t dx q else q

theorem Display.SameButObj.plotCell_eq (h : d.SameButObj d') : d'.plotCell = d.plotCell := by
  funext a p q
  simp only [Display.plotCell, Display.objPixelOf, h.pal15_eq]

theorem Display.SameButObj.columnCell_eq (h : d.SameButObj d') : d'.columnCell = d.columnCell := by
  funext a t dx q
  simp only [Display.columnCell, h.objColumn_eq, h.plotCell_eq]

theorem Display.SameButObj.entryCell_eq (h : d.SameButObj d') : d'.entryCell = d.entryCell := by
  funext t col q i
  simp only [Display.entryCell, h.objAttr_eq, h.regs_eq, h.columnCell_eq]

/-! ### The loops of the pre-render, seen from one column -/

/-- R594: a pixel that beats the current one replaces it, another one is dropped. -/
theorem mergePixel_some (current : Option ObjPixel) (p : ObjPixel) :
    mergePixel current (some p) = if objBeats p.prio current then some p else current := rfl

theorem Display.objPlot_objCell_same (a : ObjAttr) (p : BitVec 9) (hcol : d.HasColumn col) :
    (d.objPlot a col p).objCell col = d.plotCell a p (d.objCell col) := by
  obtain ⟨hbuf, hwin⟩ := hcol
  unfold Display.objPlot Display.plotCell
  split_ifs with hmode hbeats
  · simp [Display.objCell, Display.objPixelAt, hwin]
  · have hmerge : mergePixel (d.objPixelAt col) (some (d.objPixelOf a p)) = some (d.objPixelOf a p) := if_pos hbeats
    simpa [Display.objCell, Display.objPixelAt, Display.objPixelOf, hbuf] using hmerge.symm
  · have hmerge : mergePixel (d.objPixelAt col) (some (d.objPixelOf a p)) = d.objPixelAt col := if_neg hbeats
    simp [Display.objCell, hmerge]

theorem Display.objPlot_objCell_ne (a : ObjAttr) (p : BitVec 9) {j : Nat} (hj : j ≠ col) :
    (d.objPlot a j p).objCell col = d.objCell col := by
  unfold Display.objPlot
  split_ifs <;> simp [Display.objCell, Display.objPixelAt, hj]

theorem Display.drawObjColumn_objCell (a : ObjAttr) (t dx : Nat) (hcol : d.HasColumn col) (hscreen : col < 240) :
    (Display.drawObjColumn Config.single a t d dx).objCell col =
      if a.col dx = col then d.columnCell a t dx (d.objCell col) else d.objCell col := by
  unfold Display.drawObjColumn Display.columnCell
  by_cases hdx : a.col dx < Config.single.screenW
  · rw [if_pos hdx]
    cases Display.objColumn Config.single d a t dx
    case none => exact (ite_self _).symm
    case some p =>
      split_ifs with hhere
      · rw [hhere]
        exact Display.objPlot_objCell_same a p hcol
      · exact Display.objPlot_objCell_ne a p hhere
  · have hne : a.col dx ≠ col := fun e => hdx (e ▸ hscreen)
    rw [if_neg hdx, if_neg hne]

/-- A loop of sprite plotting steps, each of which acts on the column by `g`, acts on the column by the loop over `g`. -/
theorem Display.foldl_objCell {β : Type} {f : Display → β → Display} {g : ObjCell → β → ObjCell}
    (hf : ∀ d' b, Display.SameButObj d' (f d' b))
    (hg : ∀ d' b, d.SameButObj d' → (f d' b).objCell col = g (d'.objCell col) b) (l : List β) :
    (l.foldl f d).objCell col = l.foldl g (d.objCell col) := by
  induction l generalizing d with
  | nil => rfl
  | cons b l ih =>
    rw [List.foldl_cons, List.foldl_cons, ih fun d' b' h => hg d' b' ((hf d b).trans h), hg d b (.refl d)]

/-- R587: the columns of a box are distinct modulo 512, so at most one of them is `col`. -/
theorem ObjAttr.col_eq_iff (hx : a.x < 512) (hcol : col < 512) {dx : Nat} (hdx : dx < 512) :
    a.col dx = col ↔ (col + 512 - a.x) % 512 = dx := by
  unfold ObjAttr.col
  omega

/-- A loop in which only step `k` changes the value. -/
theorem foldl_range_ite_eq {β : Type} (k : Nat) (g : Nat → β → β) (q : β) (n : Nat) :
    (List.range n).foldl (fun q j => if k = j then g j q else q) q = if k < n then g k q else q := by
  induction n with
  | zero => rfl
  | succ n ih =>
    rw [List.range_succ, List.foldl_append, ih, List.foldl_cons, List.foldl_nil]
    by_cases hk : k = n
    · subst hk
      simp
    · simp only [hk, if_false, Nat.lt_succ_iff_lt_or_eq, or_false]

/-- The loop over the box of an entry is one step for the column. -/
theorem Display.foldl_drawObjColumn_objCell (a : ObjAttr) (t n : Nat) (hx : a.x < 512) (hn : n ≤ 512)
    (hcol : d.HasColumn col) (hscreen : col < 240) :
    ((List.range n).foldl (Display.drawObjColumn Config.single a t) d).objCell col =
      if (col + 512 - a.x) % 512 < n then d.columnCell a t ((col + 512 - a.x) % 512) (d.objCell col)
      else d.objCell col := by
  have hstep : ∀ d' dx, d.SameButObj d' → (Display.drawObjColumn Config.single a t d' dx).objCell col =
      if a.col dx = col then d.columnCell a t dx (d'.objCell col) else d'.objCell col := fun d' dx h => by
    rw [Display.drawObjColumn_objCell a t dx (h.hasColumn hcol) hscreen, h.columnCell_eq]
  rw [Display.foldl_objCell (g := fun q dx => if a.col dx = col then d.columnCell a t dx q else q)
      (fun d' dx => Display.drawObjColumn_sameButObj _ a t d' dx) hstep,
    ← foldl_range_ite_eq _ fun dx q => d.columnCell a t dx q]
  refine List.foldl_ext _ _ _ fun q dx hdx => ?_
  have hdx : dx < n := List.mem_range.mp hdx
  simp only [ObjAttr.col_eq_iff hx (by omega : col < 512) (by omega : dx < 512)]

theorem objSize_fst_le (shape size : Nat) : (objSize shape size).1 ≤ 64 := by
  unfold objSize
  split <;> decide

theorem ObjAttr.box_fst_le (a : ObjAttr) : a.box.1 ≤ 128 := by
  have hsize := objSize_fst_le a.shape a.size
  simp only [ObjAttr.box]
  split_ifs <;> omega

theorem Display.objAttr_x_lt (d : Display) (i : Nat) : (d.objAttr i).x < 512 := BitVec.isLt _

theorem Display.drawObj_objCell (t i : Nat) (hcol : d.HasColumn col) (hscreen : col < 240) :
    (Display.drawObj Config.single t d i).objCell col = d.entryCell t col (d.objCell col) i := by
  have hwidth : (d.objAttr i).box.1 ≤ 512 := (ObjAttr.box_fst_le _).trans (by decide)
  simp only [Display.drawObj, Display.entryCell]
  by_cases hsup : (d.objAttr i).suppressed d.regs.bgMode = true
  · simp [hsup]
  by_cases hline : (d.objAttr i).covers t = true
  · simpa [hsup, hline] using Display.foldl_drawObjColumn_objCell _ t _ (d.objAttr_x_lt i) hwidth hcol hscreen
  · simp [hsup, hline]

/-- R583: a column after the first `n` entries of the table. -/
def Display.cellAfter (d : Display) (t col n : Nat) : ObjCell := (List.range n).foldl (d.entryCell t col) (none, false)

/-- R583: a column after a pre-render is an empty column after the 128 entries. -/
theorem Display.spritePrerender_objCell (t : Nat) (h : d.regs.objEn = true) (hscreen : col < 240) :
    (Display.spritePrerender Config.single t d).objCell col = d.cellAfter t col 128 := by
  have hcol := d.clearObj_hasColumn t hscreen
  have hstep : ∀ d' i, (Display.clearObj Config.single d t).SameButObj d' →
      (Display.drawObj Config.single t d' i).objCell col = d.entryCell t col (d'.objCell col) i := fun d' i h => by
    rw [Display.drawObj_objCell t i (h.hasColumn hcol) hscreen, h.entryCell_eq]
    rfl
  rw [Display.spritePrerender_of_enabled _ t h,
    Display.foldl_objCell (fun d' i => Display.drawObj_sameButObj _ t d' i) hstep, Display.clearObj_objCell]
  rfl

theorem Display.cellAfter_succ (d : Display) (t col n : Nat) :
    d.cellAfter t col (n + 1) = d.entryCell t col (d.cellAfter t col n) n := by
  rw [Display.cellAfter, Display.cellAfter, List.range_succ, List.foldl_append]
  rfl

/-! ### The winner of a column and its window hit -/

theorem Display.columnCell_pixel (d : Display) (a : ObjAttr) (t dx : Nat) (q : ObjCell) :
    (d.columnCell a t dx q).1 = mergePixel q.1
      (if a.mode = 2 then none else (Display.objColumn Config.single d a t dx).map (d.objPixelOf a)) := by
  unfold Display.columnCell Display.plotCell
  cases Display.objColumn Config.single d a t dx <;> split_ifs <;> rfl

theorem Display.columnCell_window (d : Display) (a : ObjAttr) (t dx : Nat) (q : ObjCell) :
    (d.columnCell a t dx q).2 = true ↔
      q.2 = true ∨ a.mode = 2 ∧ (Display.objColumn Config.single d a t dx).isSome = true := by
  unfold Display.columnCell Display.plotCell
  cases Display.objColumn Config.single d a t dx
  case none => simp
  case some p => split_ifs with hmode <;> simp [hmode]

theorem Display.entryCell_pixel (d : Display) (t col : Nat) (q : ObjCell) (i : Nat) :
    (d.entryCell t col q i).1 = mergePixel q.1 (entryPixel d t i col) := by
  unfold Display.entryCell entryPixel
  dsimp only
  split_ifs with hdraws hcolour hcolour
  · rw [Display.columnCell_pixel, if_neg (by tauto)]
    rfl
  · rw [Display.columnCell_pixel, if_pos (by tauto)]
  · tauto
  · rfl

theorem Display.entryCell_window (d : Display) (t col : Nat) (q : ObjCell) (i : Nat) :
    (d.entryCell t col q i).2 = true ↔ q.2 = true ∨ entryWindow d t i col := by
  unfold Display.entryCell entryWindow
  dsimp only
  split_ifs with hdraws
  · rw [Display.columnCell_window]
    tauto
  · tauto

theorem Display.cellAfter_window (d : Display) (t col n : Nat) :
    (d.cellAfter t col n).2 = true ↔ ∃ i < n, entryWindow d t i col := by
  induction n with
  | zero => simp [Display.cellAfter]
  | succ n ih => rw [Display.cellAfter_succ, Display.entryCell_window, ih, Nat.exists_lt_succ_right]

/-- R594: of the pixels that entries below `n` offer, `w` has the lowest priority value, the earliest of its value, or
none is offered. -/
def WinsBelow (offered : Nat → Option ObjPixel) (n : Nat) (w : Option ObjPixel) : Prop :=
  match w with
  | none => ∀ i < n, offered i = none
  | some p => ∃ i < n, offered i = some p ∧ ∀ j < n, ∀ q, offered j = some q →
      p.prio.toNat ≤ q.prio.toNat ∧ (j < i → p.prio.toNat < q.prio.toNat)

/-- Nothing changes when entry `n` offers nothing. -/
theorem WinsBelow.succ_of_none {offered : Nat → Option ObjPixel} {n : Nat} {w : Option ObjPixel}
    (h : WinsBelow offered n w) (hn : offered n = none) : WinsBelow offered (n + 1) w := by
  cases w with
  | none => exact Nat.forall_lt_succ_right.mpr ⟨h, hn⟩
  | some p =>
    obtain ⟨i, hi, hp, hbest⟩ := h
    exact ⟨i, hi.trans n.lt_succ_self, hp, Nat.forall_lt_succ_right.mpr ⟨hbest, by simp [hn]⟩⟩

theorem WinsBelow.succ_of_beats {offered : Nat → Option ObjPixel} {n : Nat} {w : Option ObjPixel} {p : ObjPixel}
    (h : WinsBelow offered n w) (hn : offered n = some p) (hbeats : objBeats p.prio w = true) :
    WinsBelow offered (n + 1) (some p) := by
  have hearlier : ∀ j < n, ∀ q, offered j = some q → p.prio.toNat < q.prio.toNat := by
    intro j hj q hq
    cases w with
    | none => simp [h j hj] at hq
    | some w =>
      obtain ⟨i, -, -, hbest⟩ := h
      exact (of_decide_eq_true hbeats).trans_le (hbest j hj q hq).1
  refine ⟨n, n.lt_succ_self, hn, Nat.forall_lt_succ_right.mpr ⟨fun j hj q hq => ?_, fun q hq => ?_⟩⟩
  · exact ⟨(hearlier j hj q hq).le, fun _ => hearlier j hj q hq⟩
  · obtain rfl : p = q := Option.some.inj (hn.symm.trans hq)
    exact ⟨le_rfl, fun h => absurd h n.lt_irrefl⟩

/-- A tie goes to the earlier entry. -/
theorem WinsBelow.succ_of_not_beats {offered : Nat → Option ObjPixel} {n : Nat} {w : Option ObjPixel} {p : ObjPixel}
    (h : WinsBelow offered n w) (hn : offered n = some p) (hbeats : ¬ objBeats p.prio w = true) :
    WinsBelow offered (n + 1) w := by
  cases w with
  | none => exact absurd rfl hbeats
  | some w =>
    obtain ⟨i, hi, hw, hbest⟩ := h
    have hle : w.prio.toNat ≤ p.prio.toNat := by simpa [objBeats] using hbeats
    refine ⟨i, hi.trans n.lt_succ_self, hw, Nat.forall_lt_succ_right.mpr ⟨hbest, fun q hq => ?_⟩⟩
    obtain rfl : p = q := Option.some.inj (hn.symm.trans hq)
    exact ⟨hle, fun h => absurd h hi.asymm⟩

theorem WinsBelow.merge {offered : Nat → Option ObjPixel} {n : Nat} {w : Option ObjPixel}
    (h : WinsBelow offered n w) : WinsBelow offered (n + 1) (mergePixel w (offered n)) := by
  cases hn : offered n with
  | none => exact h.succ_of_none hn
  | some p =>
    rw [mergePixel_some]
    split_ifs with hbeats
    · exact h.succ_of_beats hn hbeats
    · exact h.succ_of_not_beats hn hbeats

theorem Display.cellAfter_pixel (d : Display) (t col n : Nat) :
    WinsBelow (fun i => entryPixel d t i col) n (d.cellAfter t col n).1 := by
  induction n with
  | zero => exact fun i hi => absurd hi i.not_lt_zero
  | succ n ih =>
    rw [Display.cellAfter_succ, Display.entryCell_pixel]
    exact ih.merge

/-- Settles O51: the pre-render keeps, entry by entry, the winner of the entries so far. -/
theorem spriteColumnWinner : Obligations.SpriteColumnWinner := by
  intro d t col hen hcol
  have hpixel : (Display.spritePrerender Config.single t d).objPixelAt col = (d.cellAfter t col 128).1 :=
    congrArg Prod.fst (Display.spritePrerender_objCell t hen hcol)
  rw [hpixel]
  exact d.cellAfter_pixel t col 128

/-- Settles O52: an entry adds a window hit to those of the entries before it, and none takes one away. -/
theorem spriteWindowHits : Obligations.SpriteWindowHits := by
  intro d t col hen hcol
  have hwindow : (Display.spritePrerender Config.single t d).objWin.getD col false = (d.cellAfter t col 128).2 :=
    congrArg Prod.snd (Display.spritePrerender_objCell t hen hcol)
  rw [hwindow]
  exact d.cellAfter_window t col 128

end Sys2Proof.Machine
end

section
/-! The window mask unit: hits in register bits and the mask they select (46_window_mask_unit.md R640-R643). -/

namespace Sys2Proof.Machine

open Sys2Proof.Claims

/-! ### The inside test -/

theorem inside_iff_between (lo hi v : Nat) : inside lo hi v = true ↔ between lo hi v := by
  unfold inside between
  split_ifs <;> simp

/-- The distance from `lo` up to `v`, with one turn past 255 when `v` is below `lo`. -/
theorem toNat_sub_eq_ite (v lo : BitVec 8) :
    (v - lo).toNat = if lo.toNat ≤ v.toNat then v.toNat - lo.toNat else v.toNat + 256 - lo.toNat := by
  split_ifs <;> bv_omega

/-- Settles O54: measured upwards from `lo`, a value is inside exactly when it comes before `hi`, whether or not either
distance wraps. -/
theorem insideIsModular : Obligations.InsideIsModular := by
  intro lo hi v
  have hv := v.isLt
  have hhi := hi.isLt
  rw [inside_iff_between, between, toNat_sub_eq_ite v lo, toNat_sub_eq_ite hi lo]
  split_ifs <;> omega

/-! ### The hits and the mask -/

theorem inWin_iff_rectHit (r : Regs) (en : Nat) (h v : Half) (x l : Nat) :
    inWin (r.dispcnt.getLsbD en) h v x l = true ↔ rectHit r en h v x l := by
  simp only [inWin, rectHit, field, Bool.and_eq_true, inside_iff_between, and_assoc]

theorem Display.objWinHit_iff_objHit (d : Display) (l x : Nat) :
    (d.regs.objwinEn && d.objWinHit l x) = true ↔ objHit d l x := by
  simp only [Regs.objwinEn, Display.objWinHit, objHit, Bool.and_eq_true, decide_eq_true_eq]

variable {d : Display} {l x : Nat}

theorem Display.winMask_of_disabled (h0 : d.regs.dispcnt.getLsbD 13 = false) (h1 : d.regs.dispcnt.getLsbD 14 = false)
    (hobj : d.regs.dispcnt.getLsbD 15 = false) : d.winMask l x = 0b111111 := by
  simp only [Display.winMask, Regs.win0En, Regs.win1En, Regs.objwinEn, h0, h1, hobj, Bool.or_self, Bool.not_false,
    if_true]

open Classical in
/-- R643's selection among the hits, once some window is enabled. -/
theorem Display.winMask_of_enabled (h : d.regs.dispcnt.getLsbD 13 = true ∨ d.regs.dispcnt.getLsbD 14 = true ∨
    d.regs.dispcnt.getLsbD 15 = true) :
    d.winMask l x =
      if rectHit d.regs 13 d.regs.win0h d.regs.win0v x l then d.regs.winin.extractLsb' 0 6
      else if rectHit d.regs 14 d.regs.win1h d.regs.win1v x l then d.regs.winin.extractLsb' 8 6
      else if objHit d l x then d.regs.winout.extractLsb' 8 6
      else d.regs.winout.extractLsb' 0 6 := by
  have hany : (d.regs.win0En || d.regs.win1En || d.regs.objwinEn) = true := by
    rw [Bool.or_eq_true, Bool.or_eq_true, or_assoc]
    exact h
  simp only [Display.winMask, hany, d.objWinHit_iff_objHit, Bool.not_true, Bool.false_eq_true, if_false]
  simp only [Regs.win0En, Regs.win1En, inWin_iff_rectHit]

/-- Settles O55: a hit says that its own window is enabled, so each clause but the first is a branch of R643's
selection. -/
theorem windowPrecedence : Obligations.WindowPrecedence := by
  rintro d l x r rfl
  refine ⟨Display.winMask_of_disabled, fun h0 => ?_, fun h0 h1 => ?_, fun h0 h1 hobj => ?_, fun hany h0 h1 hobj => ?_⟩
  · rw [Display.winMask_of_enabled (.inl h0.1), if_pos h0]
  · rw [Display.winMask_of_enabled (.inr (.inl h1.1)), if_neg h0, if_pos h1]
  · rw [Display.winMask_of_enabled (.inr (.inr hobj.1)), if_neg h0, if_neg h1, if_pos hobj]
  · rw [Display.winMask_of_enabled hany, if_neg h0, if_neg h1, if_neg hobj]

end Sys2Proof.Machine
end

section
/-! The colour arithmetic (47_priority_blend_compositor.md R676-R679, 00_scope.md R13): the channels of a colour built from
channels, and what the alpha blend and the brightness changes do to each. -/

namespace Sys2Proof.Machine

/-! ### Channels -/

theorem red_lt (a : Color) : red a < 32 := BitVec.isLt _

theorem green_lt (a : Color) : green a < 32 := BitVec.isLt _

theorem blue_lt (a : Color) : blue a < 32 := BitVec.isLt _

variable {r g b : Nat}

theorem red_rgb (hr : r < 32) : red (rgb r g b) = r := by
  rw [red, field, rgb, BitVec.extractLsb'_append_eq_right, BitVec.toNat_ofNat, Nat.mod_eq_of_lt hr]

theorem green_rgb (hg : g < 32) : green (rgb r g b) = g := by
  rw [green, field, rgb, extract_high _ _ _ _ (by decide), BitVec.extractLsb'_append_eq_right, BitVec.toNat_ofNat,
    Nat.mod_eq_of_lt hg]

theorem blue_rgb (hb : b < 32) : blue (rgb r g b) = b := by
  rw [blue, field, rgb, extract_high _ _ _ _ (by decide), BitVec.extractLsb'_append_eq_left, BitVec.toNat_ofNat,
    Nat.mod_eq_of_lt hb]

/-- A colour is built from its own channels (R13). -/
theorem rgb_channels (a : Color) : rgb (red a) (green a) (blue a) = a := by
  simp only [rgb, red, green, blue, field, BitVec.ofNat_toNat, BitVec.setWidth_eq]
  rw [BitVec.extractLsb'_append_extractLsb'_eq_extractLsb' (by rfl),
    BitVec.extractLsb'_append_extractLsb'_eq_extractLsb' (by rfl), BitVec.extractLsb'_eq_self]

/-! ### The alpha blend -/

theorem alphaChannel_lt (eva evb p q : Nat) : alphaChannel eva evb p q < 32 :=
  Nat.lt_succ_of_le (Nat.min_le_left 31 _)

theorem alphaChannel_eq_shift (eva evb p q : Nat) :
    alphaChannel eva evb p q = min 31 ((p * eva + q * evb) >>> 4) := by
  rw [alphaChannel, Nat.shiftRight_eq_div_pow]

theorem alphaChannel_first {p : Nat} (q : Nat) (hp : p < 32) : alphaChannel 16 0 p q = p := by
  rw [alphaChannel]; omega

theorem alphaChannel_second (p : Nat) {q : Nat} (hq : q < 32) : alphaChannel 0 16 p q = q := by
  rw [alphaChannel]; omega

theorem alphaBlend_channels (eva evb : Nat) (a b : Color) :
    red (alphaBlend eva evb a b) = alphaChannel eva evb (red a) (red b) ∧
      green (alphaBlend eva evb a b) = alphaChannel eva evb (green a) (green b) ∧
      blue (alphaBlend eva evb a b) = alphaChannel eva evb (blue a) (blue b) :=
  ⟨red_rgb (alphaChannel_lt ..), green_rgb (alphaChannel_lt ..), blue_rgb (alphaChannel_lt ..)⟩

/-- Settles O58: the channels of a blend are the blended channels, which fit in five bits as they saturate at 31. -/
theorem alphaChannels : Obligations.AlphaChannels := by
  refine ⟨?_, fun a b => ⟨?_, ?_⟩⟩
  · rintro r a b _ _ rfl rfl
    obtain ⟨hr, hg, hb⟩ := alphaBlend_channels r.eva r.evb a b
    rw [hr, hg, hb]
    exact ⟨alphaChannel_eq_shift .., alphaChannel_eq_shift .., alphaChannel_eq_shift ..⟩
  · rw [alphaBlend, alphaChannel_first _ (red_lt a), alphaChannel_first _ (green_lt a),
      alphaChannel_first _ (blue_lt a), rgb_channels]
  · rw [alphaBlend, alphaChannel_second _ (red_lt b), alphaChannel_second _ (green_lt b),
      alphaChannel_second _ (blue_lt b), rgb_channels]

/-! ### The brightness changes -/

theorem Regs.evy_le (r : Regs) : r.evy ≤ 16 := Nat.min_le_right _ _

/-- The clamped coefficient keeps a brightened channel in its five bits (R679). -/
theorem brightenChannel_lt {evy p : Nat} (he : evy ≤ 16) (hp : p < 32) : brightenChannel evy p < 32 := by
  have : (31 - p) * evy ≤ (31 - p) * 16 := Nat.mul_le_mul_left _ he
  rw [brightenChannel]; omega

theorem darkenChannel_lt (evy : Nat) {p : Nat} (hp : p < 32) : darkenChannel evy p < 32 :=
  (Nat.sub_le p _).trans_lt hp

theorem brightenChannel_full {p : Nat} (hp : p < 32) : brightenChannel 16 p = 31 := by
  rw [brightenChannel]; omega

theorem darkenChannel_full (p : Nat) : darkenChannel 16 p = 0 := by
  rw [darkenChannel]; omega

theorem brightenChannel_none (p : Nat) : brightenChannel 0 p = p := by
  rw [brightenChannel]; omega

theorem darkenChannel_none (p : Nat) : darkenChannel 0 p = p := by
  rw [darkenChannel]; omega

theorem brighten_channels (r : Regs) (a : Color) :
    red (brighten r.evy a) = brightenChannel r.evy (red a) ∧
      green (brighten r.evy a) = brightenChannel r.evy (green a) ∧
      blue (brighten r.evy a) = brightenChannel r.evy (blue a) :=
  ⟨red_rgb (brightenChannel_lt r.evy_le (red_lt a)), green_rgb (brightenChannel_lt r.evy_le (green_lt a)),
    blue_rgb (brightenChannel_lt r.evy_le (blue_lt a))⟩

theorem darken_channels (evy : Nat) (a : Color) :
    red (darken evy a) = darkenChannel evy (red a) ∧ green (darken evy a) = darkenChannel evy (green a) ∧
      blue (darken evy a) = darkenChannel evy (blue a) :=
  ⟨red_rgb (darkenChannel_lt evy (red_lt a)), green_rgb (darkenChannel_lt evy (green_lt a)),
    blue_rgb (darkenChannel_lt evy (blue_lt a))⟩

/-- Settles O59: the clamped coefficient keeps each channel in its five bits, so the channels of the result are the
changed channels; the two end coefficients are computed channel by channel. -/
theorem brightnessChannels : Obligations.BrightnessChannels := by
  refine ⟨fun r a => ?_, fun a => ⟨?_, ?_, ?_, ?_⟩⟩
  · obtain ⟨hr, hg, hb⟩ := brighten_channels r a
    obtain ⟨hr', hg', hb'⟩ := darken_channels r.evy a
    simp only [Nat.shiftRight_eq_div_pow]
    exact ⟨hr, hg, hb, hr', hg', hb'⟩
  · rw [brighten, brightenChannel_full (red_lt a), brightenChannel_full (green_lt a), brightenChannel_full (blue_lt a)]
    decide
  · simp only [darken, darkenChannel_full]
    decide
  · simp only [brighten, brightenChannel_none, rgb_channels]
  · simp only [darken, darkenChannel_none, rgb_channels]

end Sys2Proof.Machine
end

section
/-! The effect of a column (47_priority_blend_compositor.md R673-R675): the targets in register bits, and the branches of
the selection. -/

namespace Sys2Proof.Machine

open Sys2Proof.Claims

/-! ### The targets -/

theorem Layer.target_eq_targetIndex (y : Layer) : y.target = targetIndex y := by
  cases y with
  | bg n => cases n <;> rfl
  | obj => rfl
  | bd => rfl

variable {r : Regs} {top : Candidate} {bottom : Option Candidate}

theorem Regs.inT1_iff_firstTarget : r.inT1 top = true ↔ firstTarget r top := by
  rw [Regs.inT1, firstTarget, Layer.target_eq_targetIndex]

theorem Regs.inT2_iff_secondTarget : r.inT2 bottom = true ↔ secondTarget r bottom := by
  cases bottom with
  | none => simp [Regs.inT2, secondTarget]
  | some b => simp [Regs.inT2, secondTarget, Layer.target_eq_targetIndex]

theorem Regs.blendEffect_eq {e : BitVec 2} (h : r.bldcnt.extractLsb' 6 2 = e) : r.blendEffect = e.toNat :=
  congrArg BitVec.toNat h

/-! ### The selection -/

theorem Regs.effect_of_masked : r.effect false top bottom = top.color := by
  simp [Regs.effect]

theorem Regs.effect_of_forcedBlend (h : forcedBlend r top bottom) :
    r.effect true top bottom = r.blendWith top bottom := by
  obtain ⟨hobj, htrans, h2⟩ := h
  exact if_pos ⟨hobj, htrans, rfl, Regs.inT2_iff_secondTarget.mpr h2⟩

/-- Without a forced blend the first branch of the selection, R675's exception, is out. -/
theorem Regs.not_exception_of_not_forcedBlend (fx : Bool) (h : ¬ forcedBlend r top bottom) :
    ¬ (top.layer = .obj ∧ top.translucent ∧ fx ∧ r.inT2 bottom) := fun ⟨hobj, htrans, _, h2⟩ =>
  h ⟨hobj, htrans, Regs.inT2_iff_secondTarget.mp h2⟩

/-- Settles O60: each clause is one branch of the selection, its conditions turned from register bits into `InT1`, `InT2`
and the effect code. -/
theorem effectNeedsItsTargets : Obligations.EffectNeedsItsTargets := by
  refine ⟨fun r fx top bottom => ⟨?_, ?_, ?_, ?_⟩, fun c d l x top bottom h => ?_⟩
  · rintro rfl
    exact Regs.effect_of_masked
  · rintro rfl b rfl hforced
    exact Regs.effect_of_forcedBlend hforced
  · rintro rfl hforced h1
    rw [Regs.effect, if_neg (Regs.not_exception_of_not_forcedBlend true hforced),
      if_pos ⟨rfl, Regs.inT1_iff_firstTarget.mpr h1⟩]
    refine ⟨fun he => ?_, fun he => ?_, fun he => ?_, fun he => ?_⟩ <;> rw [Regs.blendEffect_eq he]
    · rfl
    · refine ⟨?_, fun h2 => if_neg (mt Regs.inT2_iff_secondTarget.mp h2)⟩
      rintro b rfl h2
      exact if_pos (Regs.inT2_iff_secondTarget.mpr h2)
    · rfl
    · rfl
  · rintro rfl hforced h1
    rw [Regs.effect, if_neg (Regs.not_exception_of_not_forcedBlend true hforced),
      if_neg fun ⟨_, hin⟩ => h1 (Regs.inT1_iff_firstTarget.mp hin)]
  · rw [Display.composite, h]

end Sys2Proof.Machine
end

section
/-! The priority encoder (47_priority_blend_compositor.md R670-R672): the candidates of a column are the rows of the table,
and insertion by key puts them in their order from front to back. -/

namespace Sys2Proof.Machine

open Sys2Proof.Claims

variable {c : Config} {d : Display} {l x : Nat} {k : Candidate}

/-! ### The rows of the table -/

theorem palColor_eq_pal15 (d : Display) (i : Nat) : palColor d i = d.pal15 i := rfl

theorem showsColor_iff (d : Display) (t : Texel) (color : Color) : showsColor d t color ↔ d.texelColor t = some color := by
  cases t <;> simp [showsColor, Display.texelColor, palColor_eq_pal15, eq_comm]

/-- The mode table read by layer and read by mode say the same (30_encoding.md R225). -/
theorem tableTexel_eq_bgTexel (c : Config) (d : Display) (n : Bg) (l x : Nat) :
    tableTexel c d n l x = Display.bgTexel c d n l x := by
  have hmode : (d.regs.dispcnt.extractLsb' 0 3).toNat = d.regs.bgMode := rfl
  unfold tableTexel Display.bgTexel
  rw [hmode]
  generalize d.regs.bgMode = mode
  match mode with
  | 0 | 1 | 2 | 3 | 4 | 5 | _ + 6 => cases n <;> rfl

theorem exists_mem_bgLayers {r : Regs} {P : Bg × Nat × Half → Prop} :
    (∃ b ∈ bgLayers r, P b) ↔ ∃ n ∈ Bg.all, P (n, n.num, r.bgcnt n) := by
  simp [bgLayers, Bg.all, Bg.num, Regs.bgcnt]

theorem Display.bgCandidate_eq_some_iff {n : Bg} :
    Display.bgCandidate c d l x n = some k ↔
      d.regs.dispcnt.getLsbD (8 + n.num) = true ∧ (d.winMask l x).getLsbD n.num = true ∧
        ∃ color, showsColor d (tableTexel c d n l x) color ∧
          k = { layer := .bg n, prio := ((d.regs.bgcnt n).extractLsb' 0 2).toNat, color := color,
                translucent := false } := by
  simp only [Display.bgCandidate, Option.ite_none_right_eq_some, Bool.and_eq_true, Option.map_eq_some_iff, showsColor_iff,
    tableTexel_eq_bgTexel, and_assoc, eq_comm (a := k)]
  rfl

theorem Display.objCandidate_eq_some_iff :
    d.objCandidate l x = some k ↔
      d.regs.dispcnt.getLsbD 12 = true ∧ d.objBufLine = some l ∧ (d.winMask l x).getLsbD 4 = true ∧
        ∃ p, d.objPixelAt x = some p ∧
          k = { layer := .obj, prio := p.prio.toNat, color := palColor d p.palidx.toNat,
                translucent := p.translucent } := by
  simp only [Display.objCandidate, Option.ite_none_right_eq_some, Bool.and_eq_true, decide_eq_true_eq,
    Option.map_eq_some_iff, and_assoc, eq_comm (a := k)]
  rfl

/-- The list of candidates holds exactly the rows of R670's table. -/
theorem Display.mem_candidates_iff : k ∈ Display.candidates c d l x ↔ isCandidate c d l x k := by
  simp only [Display.candidates, List.mem_append, List.mem_filterMap, Option.mem_toList, List.mem_singleton,
    Display.bgCandidate_eq_some_iff, Display.objCandidate_eq_some_iff, or_assoc]
  rw [isCandidate, exists_mem_bgLayers]
  rfl

/-! ### The order of the keys -/

/-- `a` is in front of `b` by the model's keys (R671). -/
def Candidate.Before (a b : Candidate) : Prop := keyBefore a.key b.key = true

theorem keyBefore_trans {p q s : Nat × Nat × Nat} (h : keyBefore p q = true) (h' : keyBefore q s = true) :
    keyBefore p s = true := by
  simp only [keyBefore, decide_eq_true_eq] at *
  omega

theorem keyBefore_or_of_ne {p q : Nat × Nat × Nat} (h : p ≠ q) : keyBefore p q = true ∨ keyBefore q p = true := by
  simp only [keyBefore, decide_eq_true_eq, ne_eq, Prod.ext_iff] at *
  omega

theorem Candidate.Before.irrefl (a : Candidate) : ¬ a.Before a := by
  simp [Candidate.Before, keyBefore]

theorem Bg.all_getElem?_num (n : Bg) : Bg.all[n.num]? = some n := by cases n <;> rfl

theorem Bg.num_injective : Function.Injective Bg.num := fun m n h =>
  Option.some.inj (by rw [← Bg.all_getElem?_num m, h, Bg.all_getElem?_num])

theorem keyTail_bg (n : Bg) : keyTail (.bg n) = (1, n.num) := by cases n <;> rfl

theorem keyTail_obj : keyTail .obj = (0, 0) := rfl

theorem keyTail_bd : keyTail .bd = (2, 0) := rfl

theorem keyTail_injective : Function.Injective keyTail := by
  intro y z h
  match y, z with
  | .bg m, .bg n =>
    rw [keyTail_bg, keyTail_bg, Prod.mk.injEq] at h
    rw [Bg.num_injective h.2]
  | .obj, .obj | .bd, .bd => rfl
  | .bg _, .obj | .bg _, .bd | .obj, .bg _ | .bd, .bg _ | .obj, .bd | .bd, .obj =>
    simp [keyTail_bg, keyTail_obj, keyTail_bd] at h

theorem Candidate.key_snd (k : Candidate) : k.key.2 = keyTail k.layer := by
  obtain ⟨layer, prio, color, translucent⟩ := k
  match layer with
  | .bg n => exact (keyTail_bg n).symm
  | .obj | .bd => rfl

theorem Candidate.key_fst (h : k.layer = .bd → k.prio = 4) : k.key.1 = k.prio := by
  obtain ⟨layer, prio, color, translucent⟩ := k
  match layer with
  | .bg _ | .obj => rfl
  | .bd => exact (h rfl).symm

/-- Candidates of different layers are ordered by their keys. -/
theorem Candidate.before_or_of_layer_ne {a b : Candidate} (h : a.layer ≠ b.layer) : a.Before b ∨ b.Before a := by
  refine keyBefore_or_of_ne fun hkey => h (keyTail_injective ?_)
  rw [← a.key_snd, ← b.key_snd, hkey]

/-- The priority of a candidate other than the backdrop is a field of two bits (R670). -/
theorem eq_backdrop_or_of_isCandidate (h : isCandidate c d l x k) :
    k = d.backdrop ∨ k.layer ≠ .bd ∧ k.prio < 4 := by
  rcases h with ⟨b, -, -, -, color, -, rfl⟩ | ⟨-, -, -, p, -, rfl⟩ | rfl
  · exact .inr ⟨Layer.noConfusion, BitVec.isLt _⟩
  · exact .inr ⟨Layer.noConfusion, BitVec.isLt _⟩
  · exact .inl rfl

theorem isCandidate_backdrop (c : Config) (d : Display) (l x : Nat) : isCandidate c d l x d.backdrop := .inr (.inr rfl)

theorem eq_backdrop_of_isCandidate (h : isCandidate c d l x k) (hbd : k.layer = .bd) : k = d.backdrop :=
  (eq_backdrop_or_of_isCandidate h).resolve_right fun hother => hother.1 hbd

theorem key_of_isCandidate (h : isCandidate c d l x k) : k.key = (k.prio, keyTail k.layer) := by
  refine Prod.ext (Candidate.key_fst fun hbd => ?_) k.key_snd
  exact congrArg Candidate.prio (eq_backdrop_of_isCandidate h hbd)

theorem Candidate.Before.inFront {a b : Candidate} (h : a.Before b) (ha : isCandidate c d l x a)
    (hb : isCandidate c d l x b) : inFront a b := by
  simp only [Candidate.Before, key_of_isCandidate ha, key_of_isCandidate hb, keyBefore, decide_eq_true_eq] at h
  exact h

/-- The backdrop is behind every candidate. -/
theorem not_backdrop_before (h : isCandidate c d l x k) : ¬ d.backdrop.Before k := by
  rcases eq_backdrop_or_of_isCandidate h with rfl | ⟨-, hprio⟩
  · exact Candidate.Before.irrefl _
  · intro hbefore
    have hbd : d.backdrop.prio = 4 := rfl
    rcases hbefore.inFront (isCandidate_backdrop c d l x) h with hlt | ⟨heq, -⟩ <;> omega

/-! ### The order from front to back -/

theorem mem_insertCandidate {a : Candidate} {ks : List Candidate} : a ∈ insertCandidate k ks ↔ a = k ∨ a ∈ ks := by
  induction ks with
  | nil => simp [insertCandidate]
  | cons k' rest ih =>
    rw [insertCandidate]
    split_ifs
    · exact List.mem_cons
    · rw [List.mem_cons, ih, List.mem_cons, or_left_comm]

theorem insertCandidate_pairwise {ks : List Candidate} (hks : ks.Pairwise Candidate.Before)
    (hk : ∀ k' ∈ ks, k.Before k' ∨ k'.Before k) : (insertCandidate k ks).Pairwise Candidate.Before := by
  induction ks with
  | nil => exact List.pairwise_singleton _ _
  | cons k' rest ih =>
    obtain ⟨hfront, hrest⟩ := List.pairwise_cons.mp hks
    obtain ⟨hk', hkrest⟩ := List.forall_mem_cons.mp hk
    rw [insertCandidate]
    split_ifs with hbefore
    · refine List.pairwise_cons.mpr ⟨List.forall_mem_cons.mpr ⟨hbefore, fun a ha => ?_⟩, hks⟩
      exact keyBefore_trans hbefore (hfront a ha)
    · refine List.pairwise_cons.mpr ⟨fun a ha => ?_, ih hrest hkrest⟩
      rcases mem_insertCandidate.mp ha with rfl | ha
      · exact hk'.resolve_left hbefore
      · exact hfront a ha

theorem mem_frontToBack {ks : List Candidate} : k ∈ frontToBack ks ↔ k ∈ ks := by
  induction ks with
  | nil => rfl
  | cons k' rest ih => exact mem_insertCandidate.trans ((or_congr_right ih).trans List.mem_cons.symm)

theorem frontToBack_pairwise {ks : List Candidate} (h : ks.Pairwise fun a b => a.layer ≠ b.layer) :
    (frontToBack ks).Pairwise Candidate.Before := by
  induction ks with
  | nil => exact .nil
  | cons k rest ih =>
    obtain ⟨hk, hrest⟩ := List.pairwise_cons.mp h
    exact insertCandidate_pairwise (ih hrest) fun k' hk' =>
      Candidate.before_or_of_layer_ne (hk k' (mem_frontToBack.mp hk'))

theorem Display.bgCandidate_layer {n : Bg} (h : Display.bgCandidate c d l x n = some k) : k.layer = .bg n := by
  obtain ⟨-, -, color, -, rfl⟩ := Display.bgCandidate_eq_some_iff.mp h
  rfl

theorem Display.objCandidate_layer (h : d.objCandidate l x = some k) : k.layer = .obj := by
  obtain ⟨-, -, -, p, -, rfl⟩ := Display.objCandidate_eq_some_iff.mp h
  rfl

/-- Each layer has at most one candidate. -/
theorem Display.candidates_layers_ne (c : Config) (d : Display) (l x : Nat) :
    (Display.candidates c d l x).Pairwise fun a b => a.layer ≠ b.layer := by
  have hall : Bg.all.Pairwise (· ≠ ·) := by decide
  have hbg : (Bg.all.filterMap (Display.bgCandidate c d l x)).Pairwise fun a b => a.layer ≠ b.layer := by
    refine hall.filterMap _ fun m n hmn a ha b hb => ?_
    rw [Display.bgCandidate_layer ha, Display.bgCandidate_layer hb]
    exact fun h => hmn (Layer.bg.inj h)
  have hobj : (d.objCandidate l x).toList.Pairwise fun a b => a.layer ≠ b.layer := by
    cases d.objCandidate l x <;> simp
  rw [Display.candidates, List.pairwise_append, List.pairwise_append]
  refine ⟨⟨hbg, hobj, fun a ha b hb => ?_⟩, List.pairwise_singleton _ _, fun a ha b hb => ?_⟩
  · obtain ⟨n, -, ha⟩ := List.mem_filterMap.mp ha
    rw [Display.bgCandidate_layer ha, Display.objCandidate_layer (Option.mem_toList.mp hb)]
    exact Layer.noConfusion
  · rw [List.mem_singleton.mp hb]
    rcases List.mem_append.mp ha with ha | ha
    · obtain ⟨n, -, ha⟩ := List.mem_filterMap.mp ha
      rw [Display.bgCandidate_layer ha]
      exact Layer.noConfusion
    · rw [Display.objCandidate_layer (Option.mem_toList.mp ha)]
      exact Layer.noConfusion

/-! ### The top and the bottom -/

/-- The top and the bottom of a column are the first two of its candidates in their order (R672). -/
theorem Display.topBottom_cases {top : Candidate} {bottom : Option Candidate}
    (h : Display.topBottom c d l x = (top, bottom)) :
    ∃ rest, bottom = rest.head? ∧ (top :: rest).Pairwise Candidate.Before ∧
      ∀ k, k ∈ top :: rest ↔ isCandidate c d l x k := by
  have hmem k : k ∈ frontToBack (Display.candidates c d l x) ↔ isCandidate c d l x k :=
    mem_frontToBack.trans Display.mem_candidates_iff
  have hsorted := frontToBack_pairwise (Display.candidates_layers_ne c d l x)
  unfold Display.topBottom at h
  cases hfront : frontToBack (Display.candidates c d l x) with
  | nil =>
    rw [hfront] at hmem
    exact absurd ((hmem _).mpr (isCandidate_backdrop c d l x)) List.not_mem_nil
  | cons k rest =>
    rw [hfront] at hmem hsorted h
    obtain ⟨rfl, rfl⟩ := Prod.mk.inj h
    exact ⟨rest, rfl, hsorted, hmem⟩

/-- Settles O56: the candidates in their order begin with the top and the bottom, and the backdrop is the last. -/
theorem topAndBottom : Obligations.TopAndBottom := by
  refine fun c d l x => ⟨fun k => Display.mem_candidates_iff, fun top bottom h => ?_⟩
  obtain ⟨rest, rfl, hsorted, hmem⟩ := Display.topBottom_cases h
  obtain ⟨hbehind, hrest⟩ := List.pairwise_cons.mp hsorted
  have htop : isCandidate c d l x top := (hmem top).mp List.mem_cons_self
  have hcand k (hk : k ∈ rest) : isCandidate c d l x k := (hmem k).mp (List.mem_cons_of_mem top hk)
  have hother k (hk : isCandidate c d l x k) (hne : k ≠ top) : k ∈ rest :=
    (List.mem_cons.mp ((hmem k).mpr hk)).resolve_left hne
  refine ⟨htop, fun k hk hne => (hbehind k (hother k hk hne)).inFront htop hk, ⟨fun hnone => ?_, fun hbd => ?_⟩, ?_⟩
  · obtain rfl := List.head?_eq_none_iff.mp hnone
    rw [← List.mem_singleton.mp ((hmem _).mpr (isCandidate_backdrop c d l x))]
    rfl
  · obtain rfl := eq_backdrop_of_isCandidate htop hbd
    refine List.head?_eq_none_iff.mpr (List.eq_nil_iff_forall_not_mem.mpr fun k hk => ?_)
    exact not_backdrop_before (hcand k hk) (hbehind k hk)
  · intro b hb
    obtain ⟨rest', rfl⟩ := List.head?_eq_some_iff.mp hb
    have hbmem : b ∈ b :: rest' := List.mem_cons_self
    refine ⟨hcand b hbmem, ?_, fun k hk hne hneb => ?_⟩
    · rintro rfl
      exact Candidate.Before.irrefl b (hbehind b hbmem)
    · have hk' : k ∈ rest' := (List.mem_cons.mp (hother k hk hne)).resolve_left hneb
      exact (List.rel_of_pairwise_cons hrest hk').inFront (hcand b hbmem) hk

end Sys2Proof.Machine
end

section
/-! The front buffer between two swaps (48_framebuffer_mux.md R726): a relation between the display before and after a
step that every change of a display keeps. -/

namespace Sys2Proof.Machine

variable {s t : State} {i : Instr} {b : BitVec 1} {c : Config} {f : Display → Display} {d d' d'' : Display}

/-- The frame counter does not go back and, where it stands still, no pixel of the front buffer changes. The counter
only rises, so that two changes in a row which end at the first counter never moved it in between. -/
def FrontHeld (d d' : Display) : Prop :=
  d.frameCount ≤ d'.frameCount ∧ (d'.frameCount = d.frameCount → ∀ y x, d'.frontPixel y x = d.frontPixel y x)

theorem FrontHeld.refl (d : Display) : FrontHeld d d := ⟨le_rfl, fun _ _ _ => rfl⟩

theorem FrontHeld.trans (h : FrontHeld d d') (h' : FrontHeld d' d'') : FrontHeld d d'' := by
  obtain ⟨hle, hpix⟩ := h
  obtain ⟨hle', hpix'⟩ := h'
  exact ⟨hle.trans hle', fun hc y x => (hpix' (by omega) y x).trans (hpix (by omega) y x)⟩

/-- A pixel of the front buffer comes from the index, the front index and the front buffer alone. -/
theorem Display.frontPixel_congr (hi : d'.index = d.index) (hb : d'.back = d.back)
    (hf : d'.buffer (1 - d.back) = d.buffer (1 - d.back)) (y x : Nat) : d'.frontPixel y x = d.frontPixel y x := by
  simp only [Display.frontPixel, Display.pixel, hi, hb, hf]

theorem SameOutput.frontHeld (h : SameOutput d d') (hi : d'.index = d.index) : FrontHeld d d' := by
  obtain ⟨-, -, -, h0, h1, hb, hc⟩ := h
  refine ⟨hc.ge, fun _ => Display.frontPixel_congr hi hb ?_⟩
  simp only [Display.buffer, h0, h1]

theorem HostEdit.index_eq (hf : HostEdit c i b f) (d : Display) : (f d).index = d.index := by
  cases hf with
  | ignored | store | ack => rfl
  | storeRef => simp [Display.storeRefByte]
  | memory => simp

theorem HostEdit.frontHeld (hf : HostEdit c i b f) (d : Display) : FrontHeld d (f d) :=
  (hf.sameOutput d).frontHeld (hf.index_eq d)

/-- The vblank entry swaps the buffers and counts the frame; the other changes touch neither. -/
theorem TickEdit.frontHeld (hf : TickEdit c f) (d : Display) : FrontHeld d (f d) := by
  cases hf with
  | vblankEntry => exact ⟨Nat.le_succ _, fun h => absurd h (Nat.succ_ne_self _)⟩
  | affineStep => exact .refl d
  | spritePrerender l =>
    obtain ⟨buf, win, e, _⟩ := Display.spritePrerender_frame c l d
    rw [e]
    exact .refl d

/-- A render writes the back buffer. -/
theorem Display.writeRow_frontHeld (d : Display) (l : Nat) (row : List Color) : FrontHeld d (d.writeRow l row) :=
  ⟨(d.writeRow_frameCount l row).ge,
    fun _ => Display.frontPixel_congr (d.writeRow_index l row) (d.writeRow_back l row)
      (Display.buffer_writeRow_front l row)⟩

theorem TickMove.frontHeld (hm : TickMove s t) (b : BitVec 1) : FrontHeld (s.display b) (t.display b) := by
  cases hm with
  | position | notify | refuse => exact .refl _
  | row l =>
    obtain rfl | rfl := BitVec.eq_zero_or_eq_one b
    · exact Display.writeRow_frontHeld ..
    · exact .refl _
  | displays hf =>
    rw [State.display_mapDisplays]
    split_ifs
    · exact hf.frontHeld _
    · exact .refl _

theorem Effect.frontHeld (he : Effect i s t) (b : BitVec 1) : FrontHeld (s.display b) (t.display b) := by
  cases he with
  | same | reads | refuse => exact .refl _
  | edit _ _ hf =>
    rw [State.display_modifyDisplay]
    split_ifs
    · exact hf.frontHeld _
    · exact .refl _
  | ticks n =>
    exact State.ticks_keep_of_move (P := fun u => FrontHeld (s.display b) (u.display b))
      (fun _ _ hm hs => hs.trans (hm.frontHeld b)) n.toNat (.refl _)

/-- Settles O26: a step that leaves the frame counter alone held the front buffer all along. -/
theorem frontBufferStable : Obligations.FrontBufferStable := by
  intro s t h hcount
  obtain ⟨_, rfl⟩ | ⟨i, w, rest, _, he⟩ := step_cases h
  · exact fun _ _ => rfl
  · obtain ⟨-, hpix⟩ := he.frontHeld 0
    exact hpix hcount

end Sys2Proof.Machine
end

section
/-! The output row (48_framebuffer_mux.md R720-R722): forced blank, and sprite buffers rendered for another line. -/

namespace Sys2Proof.Machine

variable {c : Config} {d : Display} {l : Nat}

/-! ### Forced blank -/

theorem Display.rowPixel_of_forcedBlank (c : Config) (h : d.regs.forcedBlank = true) (l x : Nat) :
    Display.rowPixel c d l x = c.blankColor :=
  if_pos h

/-- Settles O45: every pixel of the row takes the first branch of R720. -/
theorem forcedBlankRowConstant : Obligations.ForcedBlankRowConstant := by
  refine ⟨fun c d l h => List.eq_replicate_iff.2 ⟨Display.framebufferRow_length c d l, fun p hp => ?_⟩, rfl⟩
  obtain ⟨x, -, rfl⟩ := List.mem_map.1 hp
  exact Display.rowPixel_of_forcedBlank c h l x

/-! ### Sprite buffers of another line -/

theorem Display.objWinHit_of_stale (h : d.objBufLine ≠ some l) (x : Nat) : d.objWinHit l x = false := by
  simp [Display.objWinHit, h]

theorem Display.objCandidate_of_stale (h : d.objBufLine ≠ some l) (x : Nat) : d.objCandidate l x = none := by
  simp [Display.objCandidate, h]

/-- The display with its sprite line buffers, and the line they are for, replaced. -/
def Display.withObj (d : Display) (buf : List (Option ObjPixel)) (win : List Bool) (line : Option Nat) : Display :=
  { d with objBuf := buf, objWin := win, objBufLine := line }

variable {buf : List (Option ObjPixel)} {win : List Bool} {line : Option Nat}

theorem Display.winMask_withObj (h : d.objBufLine ≠ some l) (hline : line ≠ some l) (x : Nat) :
    (d.withObj buf win line).winMask l x = d.winMask l x := by
  have hnew : (d.withObj buf win line).objWinHit l x = false := Display.objWinHit_of_stale hline x
  simp only [Display.winMask, Display.objWinHit_of_stale h, hnew]
  rfl

theorem Display.bgCandidate_withObj (h : d.objBufLine ≠ some l) (hline : line ≠ some l) (x : Nat) (n : Bg) :
    Display.bgCandidate c (d.withObj buf win line) l x n = Display.bgCandidate c d l x n := by
  simp only [Display.bgCandidate, Display.winMask_withObj h hline]
  rfl

theorem Display.candidates_withObj (h : d.objBufLine ≠ some l) (hline : line ≠ some l) (x : Nat) :
    Display.candidates c (d.withObj buf win line) l x = Display.candidates c d l x := by
  have hbg := funext (Display.bgCandidate_withObj (c := c) (buf := buf) (win := win) h hline x)
  have hnew : (d.withObj buf win line).objCandidate l x = none := Display.objCandidate_of_stale hline x
  simp only [Display.candidates, hbg, hnew, Display.objCandidate_of_stale h]
  rfl

theorem Display.rowPixel_withObj (h : d.objBufLine ≠ some l) (hline : line ≠ some l) (x : Nat) :
    Display.rowPixel c (d.withObj buf win line) l x = Display.rowPixel c d l x := by
  simp only [Display.rowPixel, Display.composite, Display.topBottom, Display.candidates_withObj h hline,
    Display.winMask_withObj h hline]
  rfl

/-- Settles O57: neither display has a sprite candidate or an object-window hit, and nothing else reads the buffers. -/
theorem staleSpriteBufferIgnored : Obligations.StaleSpriteBufferIgnored := by
  intro c d d' l h h' e
  rw [e]
  exact List.map_congr_left fun x _ => Display.rowPixel_withObj h h' x

end Sys2Proof.Machine
end

section
/-! The absorbing mark (60_exceptions.md R755). -/

namespace Sys2Proof.Machine

open Sys2Proof.Claims

variable {s t : State} {i : Instr}

theorem drawsByte_eq (s : State) : drawsByte s = s.outputDrawByte := rfl

theorem drawsPixel_eq (s : State) : drawsPixel s = s.outputDrawPixel := rfl

theorem State.transactRead_of_marked (h : s.refused ≠ none) (legal : Bool) (drawn body : State → State) :
    s.transactRead legal drawn body = if legal = true then drawn s else s :=
  if_pos (Option.isSome_iff_ne_none.2 h)

theorem Framed.marked (h : Framed i s t) (hr : s.refused ≠ none) :
    t = if i.legal s.config = true ∧ i.kind = 0b000 then drawsByte s
      else if i.legal s.config = true ∧ i.kind = 0b101 then drawsPixel s else s := by
  cases h with
  | badWord hi => simp [hi, State.badWord, State.transact_marked hr]
  | write body hk =>
    obtain ⟨hbyte, hpixel⟩ := hk
    rw [State.transact_marked hr, if_neg fun h => hbyte h.2, if_neg fun h => hpixel h.2]
  | readByte body hk => simp [State.transactRead_of_marked hr, hk, drawsByte_eq]
  | readPixel body hk => simp [State.transactRead_of_marked hr, hk, drawsPixel_eq]

/-- Settles O7: the frame of a transaction runs its body only where no refusal is recorded. -/
theorem markIsAbsorbing : Obligations.MarkIsAbsorbing := by
  intro i s hr
  obtain ⟨t, ht, hframed⟩ := exec_framed i s
  rw [ht, hframed.marked hr]

end Sys2Proof.Machine
end

section
/-! The form that the register accesses share: what it says of a DUAL machine (60_exceptions.md R757), and of a write
that is repeated (20_memory.md R155). -/

namespace Sys2Proof.Machine

variable {s t : State} {i : Instr} {d : Display} {body : State → State}

/-! ### Stores that repeat -/

theorem mergeByte_mergeByte (old : BitVec 32) (k : Nat) (v : Byte) (m : BitVec 32) :
    mergeByte (mergeByte old k v m) k v m = mergeByte old k v m := by
  apply BitVec.eq_of_getLsbD_eq
  intro j _
  simp only [getLsbD_mergeByte]
  split_ifs
  · rfl
  · rw [Bool.and_assoc, Bool.and_self]

theorem Regs.set_set (r : Regs) (reg : Reg) (v w : BitVec 32) : (r.set reg v).set reg w = r.set reg w := by
  cases reg <;> rfl

theorem Display.storeByte_storeByte (d : Display) (reg : Reg) (k : Nat) (v : Byte) :
    (d.storeByte reg k v).storeByte reg k v = d.storeByte reg k v := by
  rw [Display.storeByte, Display.storeByte_get_self, mergeByte_mergeByte, Display.storeByte_regs, Regs.set_set]
  rfl

theorem Display.reloadRef_reloadRef (d : Display) (reg : Reg) : (d.reloadRef reg).reloadRef reg = d.reloadRef reg := by
  cases reg <;> rfl

/-- A reload reads the registers only, so a byte write that changes nothing still changes nothing after it. -/
theorem Display.storeByte_reloadRef {reg : Reg} {k : Nat} {v : Byte} (h : d.storeByte reg k v = d) :
    (d.reloadRef reg).storeByte reg k v = d.reloadRef reg := by
  have hregs : d.regs.set reg (mergeByte (d.regs.get reg) k v reg.wmask) = d.regs := congrArg Display.regs h
  rw [Display.storeByte, Display.reloadRef_regs, hregs, ← d.reloadRef_regs reg]

theorem Display.storeRefByte_storeRefByte (d : Display) (reg : Reg) (k : Nat) (v : Byte) :
    (d.storeRefByte reg k v).storeRefByte reg k v = d.storeRefByte reg k v := by
  rw [Display.storeRefByte, Display.storeRefByte, Display.storeByte_reloadRef (d.storeByte_storeByte reg k v),
    Display.reloadRef_reloadRef]

theorem Sparse.insert_insert {α : Type} (m : List (Nat × α)) (a : Nat) (v : α) :
    Sparse.insert (Sparse.insert m a v) a v = Sparse.insert m a v := by
  induction m with
  | nil => simp [Sparse.insert]
  | cons p rest ih =>
    obtain ⟨k, w⟩ := p
    simp only [Sparse.insert]
    split_ifs with hlt heq
    · simp [Sparse.insert]
    · simp [Sparse.insert]
    · simp [Sparse.insert, hlt, heq, ih]

theorem Display.writeByte_writeByte (d : Display) (sp : Space) (a : Nat) (v : Byte) :
    (d.writeByte sp a v).writeByte sp a v = d.writeByte sp a v := by
  cases sp <;> simp [Display.writeByte, Sparse.insert_insert]

/-! ### Bodies that repeat -/

/-- The body of a write that done twice is done once: it keeps the configuration and, unless it records a refusal, does
nothing the second time. -/
def Repeats (body : State → State) : Prop :=
  ∀ s, (body s).config = s.config ∧ ((body s).refused = none → body (body s) = body s)

theorem repeats_id : Repeats id := fun _ => ⟨rfl, fun _ => rfl⟩

theorem repeats_refuse (r : RefuseReason) : Repeats fun s => s.refuse r := fun _ => ⟨rfl, nofun⟩

theorem repeats_modifyDisplay {f : Display → Display} (hf : ∀ d, f (f d) = f d) (b : BitVec 1) :
    Repeats fun s => s.modifyDisplay b f := by
  refine fun s => ⟨by simp, fun _ => ?_⟩
  obtain rfl | rfl := BitVec.eq_zero_or_eq_one b <;> simp [hf]

theorem repeats_greenSwap (data : Byte) :
    Repeats fun s => if data = 0 then s else s.refuse .greenSwapUnmodelled := by
  by_cases h : data = 0
  · simp only [h, if_true]
    exact repeats_id
  · simp only [h, if_false]
    exact repeats_refuse _

theorem Repeats.registerAccess (hb : Repeats body) : Repeats fun s => s.registerAccess body := by
  intro s
  cases hv : s.config.variant with
  | dual => simp [State.registerAccess_dual hv]
  | single =>
    obtain ⟨hconfig, htwice⟩ := hb s
    have hv' : (body s).config.variant = .single := by rw [hconfig, hv]
    simp only [State.registerAccess_single hv, State.registerAccess_single hv']
    exact ⟨hconfig, htwice⟩

/-! ### The register accesses -/

/-- The form of every `RD8`: a register access within the limits of R210, a draw of 8 bits under the mark. -/
def ReadsRegister (i : Instr) : Prop :=
  ∀ s, ∃ body, exec i s =
    .next (s.transactRead (i.legal s.config) State.outputDrawByte fun s => s.registerAccess body)

/-- The form of every `WR8`: a register access within the limits of R210, which repeats. -/
def WritesRegister (i : Instr) : Prop :=
  ∃ body, Repeats body ∧ ∀ s, exec i s = .next (s.transact (i.legal s.config) fun s => s.registerAccess body)

theorem registerAccess_form (hk : i.kind = 0b000 ∨ i.kind = 0b001) :
    (i.kind = 0b000 ∧ ReadsRegister i) ∨ (i.kind = 0b001 ∧ WritesRegister i) := by
  have write {f : Display → Display} (b : BitVec 1) (hf : ∀ d, f (f d) = f d) := repeats_modifyDisplay hf b
  cases i
  case tick | ack | memwr8Pal | memwr8Vram | memwr8Oam | memwr8ReservedSpace | rdpix | reservedKind6 | reservedKind7 =>
    exact absurd hk (by simp [Instr.kind])
  case rd8OffOutOfRange => exact .inl ⟨rfl, fun _ => ⟨id, rfl⟩⟩
  case wr8OffOutOfRange => exact .inr ⟨rfl, _, repeats_id, fun _ => rfl⟩
  case wr8Greenswap => exact .inr ⟨rfl, _, repeats_greenSwap _, fun _ => rfl⟩
  case wr8Vcount | wr8Unused04e | wr8Unused056 | wr8Unused058 =>
    exact .inr ⟨rfl, _, write _ fun _ => rfl, fun _ => rfl⟩
  case wr8Bg2x | wr8Bg2y | wr8Bg3x | wr8Bg3y =>
    exact .inr ⟨rfl, _, write _ fun d => d.storeRefByte_storeRefByte .., fun _ => rfl⟩
  case wr8Dispcnt | wr8Dispstat | wr8Bg0cnt | wr8Bg1cnt | wr8Bg2cnt | wr8Bg3cnt | wr8Bg0hofs | wr8Bg0vofs | wr8Bg1hofs
      | wr8Bg1vofs | wr8Bg2hofs | wr8Bg2vofs | wr8Bg3hofs | wr8Bg3vofs | wr8Bg2pa | wr8Bg2pb | wr8Bg2pc | wr8Bg2pd
      | wr8Bg3pa | wr8Bg3pb | wr8Bg3pc | wr8Bg3pd | wr8Win0h | wr8Win1h | wr8Win0v | wr8Win1v | wr8Winin | wr8Winout
      | wr8Mosaic | wr8Bldcnt | wr8Bldalpha | wr8Bldy =>
    exact .inr ⟨rfl, _, write _ fun d => d.storeByte_storeByte .., fun _ => rfl⟩
  all_goals -- `RD8`
    exact .inl ⟨rfl, fun _ => ⟨_, rfl⟩⟩

theorem State.renderLine_dual (h : s.config.variant = .dual) (l : Nat) :
    s.renderLine l = s.refuse .dualUnmodelled := by
  simp [State.renderLine, h]

/-- Settles O8: the body of every register access, and every render, looks at the variant first. -/
theorem dualAccessesRefused : Obligations.DualAccessesRefused := by
  refine ⟨fun i s hr hv hl hk => ?_, fun _ l hv => State.renderLine_dual hv l⟩
  obtain ⟨-, hread⟩ | ⟨-, body, -, hwrite⟩ := registerAccess_form hk
  · obtain ⟨body, e⟩ := hread s
    rw [e, State.transactRead_run hr hl, State.registerAccess_dual hv, State.refuse]
  · rw [hwrite, State.transact_run hr hl, State.registerAccess_dual hv, State.refuse]

/-! ### Repeated writes -/

/-- The form of every `WR8` and every `MEMWR8`: a body that repeats, run within the limits of R210. -/
def WritesOnce (i : Instr) : Prop :=
  ∃ body, Repeats body ∧ ∀ s, exec i s = .next (s.transact (i.legal s.config) body)

theorem memwr8_writesOnce (hk : i.kind = 0b100) : WritesOnce i := by
  cases i
  case memwr8Pal | memwr8Vram | memwr8Oam =>
    exact ⟨_, repeats_modifyDisplay (fun d => d.writeByte_writeByte ..) _, fun _ => rfl⟩
  case memwr8ReservedSpace => exact ⟨_, repeats_id, fun _ => rfl⟩
  all_goals -- no `MEMWR8`
    exact absurd hk (by simp [Instr.kind])

theorem WritesRegister.writesOnce (h : WritesRegister i) : WritesOnce i := by
  obtain ⟨body, hb, e⟩ := h
  exact ⟨_, hb.registerAccess, e⟩

theorem wr8_writesOnce (hk : i.kind = 0b001) : WritesOnce i := by
  obtain ⟨hread, -⟩ | ⟨-, hwrite⟩ := registerAccess_form (.inr hk)
  · exact absurd (hread.symm.trans hk) (by decide)
  · exact hwrite.writesOnce

/-- Done again, a marked transaction and a refused one leave the mark, and one that ran repeats. -/
theorem Repeats.transact_transact (hb : Repeats body) (legal : Config → Bool)
    (ht : s.transact (legal s.config) body = t) : t.transact (legal t.config) body = t := by
  by_cases hmark : t.refused = none
  · obtain ⟨hconfig, htwice⟩ := hb s
    obtain ⟨hr, e⟩ | ⟨_, hl, e⟩ | ⟨_, _, e⟩ := s.transact_cases (legal s.config) body
    · exact absurd hmark (by rwa [← ht, e])
    · obtain rfl := e.symm.trans ht
      rw [State.transact_run hmark (by rwa [hconfig]), htwice hmark]
    · exact absurd hmark (by simp [← ht, e])
  · exact State.transact_marked hmark

/-- Settles O20: each write is a transaction whose body repeats. -/
theorem repeatedWriteIsOneWrite : Obligations.RepeatedWriteIsOneWrite := by
  intro i s t hk h
  obtain ⟨body, hb, e⟩ := hk.elim wr8_writesOnce memwr8_writesOnce
  rw [e] at h ⊢
  rw [hb.transact_transact i.legal (Host.Outcome.next.inj h)]

end Sys2Proof.Machine
end
